-- ==== Sys2Proof/Word.lean ====
section
/-! DEFINITION. The words of the SZ4816 and its fixed tables of records. A `Table n α` is the "n records" of a
block (48 channels, 64 claim records, 8 sessions): a list whose length is part of its type. -/

namespace Sys2Proof

/-- One byte on a link port or in a profile copy. -/
abbrev Byte := BitVec 8

/-- Exactly `n` records, numbered 0 to n − 1, held as plain data. -/
structure Table (n : Nat) (α : Type) where
  cells : List α
  size_eq : cells.length = n
deriving DecidableEq, Repr

namespace Table

variable {n : Nat} {α β : Type}

/-- The record at position `i`. -/
def get (t : Table n α) (i : Fin n) : α := t.cells.get (i.cast t.size_eq.symm)

/-- The table whose record `i` is `f i`. -/
def ofFn (f : Fin n → α) : Table n α := ⟨List.ofFn f, List.length_ofFn⟩

/-- Every record equal to `a`. -/
def replicate (a : α) : Table n α := ⟨List.replicate n a, List.length_replicate⟩

/-- Record `i` replaced by `a`, every other record as it was. -/
def set (t : Table n α) (i : Fin n) (a : α) : Table n α :=
  ⟨t.cells.set i.val a, (List.length_set).trans t.size_eq⟩

/-- Record `i` changed by `f`, every other record as it was. -/
def modify (t : Table n α) (i : Fin n) (f : α → α) : Table n α := t.set i (f (t.get i))

/-- Every record changed by `f`. -/
def map (f : α → β) (t : Table n α) : Table n β := ⟨t.cells.map f, (List.length_map f).trans t.size_eq⟩

/-- Every record changed by `f`, which is told the record's number. -/
def mapIdx (f : Fin n → α → β) (t : Table n α) : Table n β := ofFn fun i => f i (t.get i)

end Table

end Sys2Proof
end

