-- ==== Sys2Proof/Config.lean ====
section
/-! DEFINITION. The constants of the SZ4816 that no event changes: the sizes its rules give, the fixed bounds, and
the built-in defaults of the rest profile (R132). The spec leaves no value of a step open, so there is no free value
here; what the outside decides (a reading, how a nonvolatile write went) is an operand of its command. -/

namespace Sys2Proof.Config

/-- R4: the most LIVE and RETIRED records one session may own. -/
def maxOwned : Nat := 16

/-- R5: the most records one holder stack holds. -/
def stackDepth : Nat := 4

/-- Channel values are counts, 0 to 1023 (R1, R81, R102). -/
def maxValue : Nat := 1023

/-- R116: internal oscillator periods in one window. -/
def windowPeriods : Nat := 512

/-- R116: the edge count at which a window is good, where the count also stops. -/
def goodEdges : Nat := 4

/-- R117: the good run at which reference-present is set, where the run also stops. -/
def goodRunFull : Nat := 16

/-- R85: internal oscillator periods in one carrier period. -/
def carrierPeriods : Nat := 1023

/-- R133: content bytes of a profile copy. -/
def contentBytes : Nat := 540

/-- R133: bytes of a whole copy, its CRC-16 included. -/
def copyBytes : Nat := 542

/-- R132, field 0x01. -/
def defaultPrescaler : Nat := 1000
/-- R132, field 0x02. -/
def defaultHoldoverDivider : Nat := 8000
/-- R132, field 0x03. -/
def defaultHoldoverPeriod : Nat := 2000
/-- R132, fields 0x04 and 0x05. -/
def defaultCeiling : Nat := 15
/-- R132, field 0x15. -/
def defaultTolerance : Nat := 16
/-- R132, field 0x16. -/
def defaultMissLimit : Nat := 3

/-- R133: every byte of an erased copy reads 0xFF. -/
def erasedByte : Byte := 0xFF#8

/-- What the two nonvolatile copies hold in `State.reset`. DESIGN CHOICE (log entry 2): the spec gives the copies no
first contents; the model starts with both erased. -/
def firstCopy : List Byte := List.replicate copyBytes erasedByte

end Sys2Proof.Config
end

