-- ==== Sys2Proof/Syntax.lean ====
section
/-! DEFINITION. The commands of the SZ4816: one constructor of `Instr` for each row of spec/opcode_table.json, with
the operands the outside (or the sender of events) decides. A request row (OPEN, CLAIM, …) names the port whose
request in flight is taken: its parameters are the request bytes that port holds (R155, R163). QUERY_DEVICE also names
the blocks it reads at this step, by default all five (R173, log entry 25). -/

namespace Sys2Proof

/-- A link port: ATTN0n, CS0n … or ATTN1n, CS1n …. -/
inductive PortId where
  | port0
  | port1
deriving DecidableEq, Repr

/-- A channel, C0 to C47. -/
abbrev Chan := Fin 48

/-- The index of a claim record, 0 to 63. -/
abbrev RecIdx := Fin 64

/-- The slot of a session record, 0 to 7. -/
abbrev Slot := Fin 8

/-- How much of a transaction (R149) one command covers. The port forms its status byte and fixes the state by which
it judges the frame at the fall of chip select, and takes the frame at the rise; events may reach it in between.
`bytes` are the whole bytes counted during the low period, after the frame-kind byte that the command's own row
gives (for UNKNOWN_FRAME, all of them); `bits` is the number of bits clocked after the last whole byte, which are no
byte and are not counted. -/
inductive Transaction where
  /-- chip select falls -/
  | fall
  /-- chip select rises, after these bytes and bits -/
  | rise (bytes : List Byte) (bits : Fin 8 := 0)
  /-- chip select falls and rises with no event in between -/
  | whole (bytes : List Byte) (bits : Fin 8 := 0)
deriving DecidableEq, Repr

/-- The five blocks that take each tick (R118). -/
inductive TickTaker where
  | claimTable
  | sessionTable
  | outputStage
  | readbackMonitor
  | supervisor
deriving DecidableEq, Repr

/-- What the write of the commit target had reached when a device reset cut it short (R142, R146). -/
inductive WriteReached where
  /-- during part 1: byte i still reads its older value where `kept` says so, and 0xFF elsewhere -/
  | erasing (kept : List Bool)
  /-- after part 1: this many bytes of parts 2 to 4 are written, the parts in the order of R142 and the bytes of a part
  in ascending order (log entry 13); the others read 0xFF -/
  | writing (bytesWritten : Nat)
deriving DecidableEq, Repr

/-- A byte that the nonvolatile memory did not take as written, or as erased (R142, R145, R146): where it is, and what it
reads. -/
structure Flaw where
  index : Nat
  reads : Byte
deriving DecidableEq, Repr

/-- Which of the two blocks takes an activation first, where the order matters (R111, R144). -/
inductive ActivationOrder where
  | outputFirst
  | monitorFirst
deriving DecidableEq, Repr

/-- The blocks from which the decoder reads the items of QUERY_DEVICE (R173). -/
inductive DeviceBlock where
  | supervisor
  | outputStage
  | claimTable
  | sessionTable
  | profileStore
deriving DecidableEq, Repr

/-- The five blocks, in the order of R173's items. -/
def DeviceBlock.all : List DeviceBlock := [.supervisor, .outputStage, .claimTable, .sessionTable, .profileStore]

/-- R53. -/
inductive Role where
  | control
  | maintenance
deriving DecidableEq, Repr

/-- R14. -/
inductive Disposition where
  | immediate
  | standby
deriving DecidableEq, Repr

/-- R138. -/
inductive Source where
  | active
  | staging
deriving DecidableEq, Repr

/-- A handle as it stands in a request: generation, then slot or index (R165). -/
structure WireHandle where
  gen : Byte
  low : Byte
deriving DecidableEq, Repr

/-- One (channel, value) pair of a claim. -/
structure Pair where
  chan : Chan
  value : Nat
deriving DecidableEq, Repr

/-- The commands, in the order of spec/opcode_table.json. -/
inductive Instr where
  | deviceReset (reached : WriteReached) (flaws : List Flaw)
  | resetEnd
  | startUpLoadCompletion
  | submit (p : PortId) (x : Transaction)
  | collect (p : PortId) (x : Transaction)
  | peek (p : PortId) (x : Transaction)
  | clear (p : PortId) (x : Transaction)
  | unknownFrame (p : PortId) (x : Transaction)
  | responseProduced (p : PortId)
  | unknownRequest (p : PortId)
  | openSession (p : PortId)
  | closeSession (p : PortId)
  | keepalive (p : PortId)
  | claim (p : PortId)
  | set (p : PortId)
  | setIf (p : PortId)
  | renew (p : PortId)
  | release (p : PortId)
  | transfer (p : PortId)
  | revoke (p : PortId)
  | fetch (p : PortId)
  | queryClaim (p : PortId)
  | queryChannel (p : PortId)
  | queryDevice (p : PortId) (reads : List DeviceBlock := DeviceBlock.all)
  | clearFault (p : PortId)
  | resume (p : PortId)
  | profileRead (p : PortId)
  | profileStage (p : PortId)
  | profileCommit (p : PortId)
  | profileDiscard (p : PortId)
  | commitCompletion (flaws : List Flaw) (order : ActivationOrder)
  | windowEnd
  | tick (takers : List TickTaker)
  | leaseExpiry
  | sessionLapse
  | lapsedEntry
  | conversionCompletion (input : Int)
  | channelFault (c : Chan)
  | faultNotice (c : Chan)
  | topReport (c : Chan)
  | valueReport (c : Chan)
  | quiescenFall
  | quiescenRise
  | refclkEdge
deriving DecidableEq, Repr

/-- The mnemonic of the command's row in spec/opcode_table.json. -/
def Instr.mnemonic : Instr → String
  | .deviceReset _ _ => "DEVICE_RESET"
  | .resetEnd => "RESET_END"
  | .startUpLoadCompletion => "START_UP_LOAD_COMPLETION"
  | .submit _ _ => "SUBMIT"
  | .collect _ _ => "COLLECT"
  | .peek _ _ => "PEEK"
  | .clear _ _ => "CLEAR"
  | .unknownFrame _ _ => "UNKNOWN_FRAME"
  | .responseProduced _ => "RESPONSE_PRODUCED"
  | .unknownRequest _ => "UNKNOWN_REQUEST"
  | .openSession _ => "OPEN"
  | .closeSession _ => "CLOSE"
  | .keepalive _ => "KEEPALIVE"
  | .claim _ => "CLAIM"
  | .set _ => "SET"
  | .setIf _ => "SET_IF"
  | .renew _ => "RENEW"
  | .release _ => "RELEASE"
  | .transfer _ => "TRANSFER"
  | .revoke _ => "REVOKE"
  | .fetch _ => "FETCH"
  | .queryClaim _ => "QUERY_CLAIM"
  | .queryChannel _ => "QUERY_CHANNEL"
  | .queryDevice _ _ => "QUERY_DEVICE"
  | .clearFault _ => "CLEAR_FAULT"
  | .resume _ => "RESUME"
  | .profileRead _ => "PROFILE_READ"
  | .profileStage _ => "PROFILE_STAGE"
  | .profileCommit _ => "PROFILE_COMMIT"
  | .profileDiscard _ => "PROFILE_DISCARD"
  | .commitCompletion _ _ => "COMMIT_COMPLETION"
  | .windowEnd => "WINDOW_END"
  | .tick _ => "TICK"
  | .leaseExpiry => "LEASE_EXPIRY"
  | .sessionLapse => "SESSION_LAPSE"
  | .lapsedEntry => "LAPSED_ENTRY"
  | .conversionCompletion _ => "CONVERSION_COMPLETION"
  | .channelFault _ => "CHANNEL_FAULT"
  | .faultNotice _ => "FAULT_NOTICE"
  | .topReport _ => "TOP_REPORT"
  | .valueReport _ => "VALUE_REPORT"
  | .quiescenFall => "QUIESCEN_FALL"
  | .quiescenRise => "QUIESCEN_RISE"
  | .refclkEdge => "REFCLK_EDGE"

end Sys2Proof
end

