-- ==== Sys2Proof/WellFormed.lean ====
section
/-! DEFINITION. Which commands name an event the part can meet, judged from their operands alone. -/

namespace Sys2Proof

/-- The four frame-kind bytes of R149. -/
def frameKinds : List Byte := [0x01#8, 0x02#8, 0x03#8, 0x0F#8]

/-- R133: a flaw lies at one of the 542 bytes of a copy. -/
def Flaw.inCopy (f : Flaw) : Bool := decide (f.index < Config.copyBytes)

/-- R142, R146: an erase tells of each of the 542 bytes, and a write has written at most 542. -/
def WriteReached.wellFormed : WriteReached → Bool
  | .erasing kept => decide (kept.length = Config.copyBytes)
  | .writing n => decide (n ≤ Config.copyBytes)

/-- R153: an UNKNOWN_FRAME's first byte is none of the four frame kinds. A transaction with no whole byte is no frame
(R149) and is allowed here: it stands under this row because no other row has room for it. -/
def Transaction.unknownKind : Transaction → Bool
  | .fall => true
  | .rise [] _ => true
  | .whole [] _ => true
  | .rise (b :: _) _ => decide (b ∉ frameKinds)
  | .whole (b :: _) _ => decide (b ∉ frameKinds)

/-- The command names an event the part can meet. -/
def Instr.wellFormed : Instr → Bool
  | .deviceReset reached flaws => reached.wellFormed && flaws.all Flaw.inCopy
  | .resetEnd => true
  | .startUpLoadCompletion => true
  | .submit _ _ => true
  | .collect _ _ => true
  | .peek _ _ => true
  | .clear _ _ => true
  | .unknownFrame _ x => x.unknownKind
  | .responseProduced _ => true
  | .unknownRequest _ => true
  | .openSession _ => true
  | .closeSession _ => true
  | .keepalive _ => true
  | .claim _ => true
  | .set _ => true
  | .setIf _ => true
  | .renew _ => true
  | .release _ => true
  | .transfer _ => true
  | .revoke _ => true
  | .fetch _ => true
  | .queryClaim _ => true
  | .queryChannel _ => true
  | .queryDevice _ reads => decide reads.Nodup
  | .clearFault _ => true
  | .resume _ => true
  | .profileRead _ => true
  | .profileStage _ => true
  | .profileCommit _ => true
  | .profileDiscard _ => true
  | .commitCompletion flaws _ => flaws.all Flaw.inCopy
  | .windowEnd => true
  | .tick takers => decide takers.Nodup
  | .leaseExpiry => true
  | .sessionLapse => true
  | .lapsedEntry => true
  | .conversionCompletion _ => true
  | .channelFault _ => true
  | .faultNotice _ => true
  | .topReport _ => true
  | .valueReport _ => true
  | .quiescenFall => true
  | .quiescenRise => true
  | .refclkEdge => true

end Sys2Proof
end

