-- ==== Sys2Proof/Decode.lean ====
section
/-! DEFINITION. Bytes: the byte order of the link and of the profile copies, the two CRCs, the result codes, and what
the request decoder reads from a request's bytes (R163 steps 1 to 3, R164, R165, R166). -/

namespace Sys2Proof

/-! ## Byte order: most significant byte first -/

/-- Byte `i` of a request, as a number. -/
def byteAt (r : List Byte) (i : Nat) : Nat := (r.getD i 0#8).toNat

/-- The two bytes at `i` and `i + 1`, most significant first. -/
def wordAt (r : List Byte) (i : Nat) : Nat := byteAt r i * 256 + byteAt r (i + 1)

/-- The four bytes from `i`, most significant first. -/
def longAt (r : List Byte) (i : Nat) : Nat := wordAt r i * 65536 + wordAt r (i + 2)

/-- The handle whose generation byte is at `i`. -/
def handleAt (r : List Byte) (i : Nat) : WireHandle := ⟨r.getD i 0#8, r.getD (i + 1) 0#8⟩

/-- A number as one byte. -/
def be8 (n : Nat) : List Byte := [BitVec.ofNat 8 n]

/-- A number as two bytes, most significant first. -/
def be16 (n : Nat) : List Byte := [BitVec.ofNat 8 (n / 256), BitVec.ofNat 8 n]

/-- A number as four bytes, most significant first. -/
def be32 (n : Nat) : List Byte := be16 (n / 65536) ++ be16 n

/-- A flag as one byte: 0 no, 1 yes (R169). -/
def flagByte (b : Bool) : List Byte := [if b then 1#8 else 0#8]

/-! ## The two CRCs -/

/-- One bit of the CRC-8 of R151: polynomial x^8 + x^2 + x + 1. -/
def crc8Bit (c : BitVec 8) : BitVec 8 := if c.msb then (c <<< 1) ^^^ 0x07#8 else c <<< 1

/-- One byte of the CRC-8, most significant bit first. -/
def crc8Byte (c : BitVec 8) (b : Byte) : BitVec 8 :=
  crc8Bit (crc8Bit (crc8Bit (crc8Bit (crc8Bit (crc8Bit (crc8Bit (crc8Bit (c ^^^ b))))))))

/-- R151: the CRC-8 of a link frame, from 0x00, without final inversion. -/
def crc8 (bs : List Byte) : Byte := bs.foldl crc8Byte 0x00#8

/-- One bit of the CRC-16 of R133: polynomial x^16 + x^12 + x^5 + 1. -/
def crc16Bit (c : BitVec 16) : BitVec 16 := if c.msb then (c <<< 1) ^^^ 0x1021#16 else c <<< 1

/-- One byte of the CRC-16, most significant bit first. -/
def crc16Byte (c : BitVec 16) (b : Byte) : BitVec 16 :=
  crc16Bit (crc16Bit (crc16Bit (crc16Bit (crc16Bit (crc16Bit (crc16Bit (crc16Bit
    (c ^^^ (b.zeroExtend 16 <<< 8)))))))))

/-- R133: the CRC-16 of a copy's content, from 0xFFFF, without final inversion. -/
def crc16 (bs : List Byte) : BitVec 16 := bs.foldl crc16Byte 0xFFFF#16

/-! ## Frames -/

def submitKind : Byte := 0x01#8
def collectKind : Byte := 0x02#8
def peekKind : Byte := 0x03#8
def clearKind : Byte := 0x0F#8

/-- R152: the request bytes of a SUBMIT frame, given every whole byte of the transaction, when its length, its count
of bytes and its CRC hold (conditions 2 to 4); condition 1 is the port's. -/
def submitRequest (frame : List Byte) : Option (List Byte) :=
  let l := byteAt frame 1
  if 2 ≤ l ∧ l ≤ 60 ∧ frame.length = l + 3 ∧ frame.getD (l + 2) 0#8 = crc8 ((frame.drop 1).take (l + 1)) then
    some ((frame.drop 2).take l)
  else none

/-! ## Result codes -/

/-- R168: the results, in the order of their codes. -/
inductive Result where
  | ok | unknownRequest | badLength | badValue | noSession | wrongPort | sessionLapsed | notPermitted
  | noClaim | notOwner | retired | staleEpoch | timebase | quiesced | committing | priorityCeiling | sessionFull
  | poolEmpty | channelFaulted | outOfLimits | priorityTaken | stackFull | notTop | notMember | mismatch | empty
  | sessionsExhausted | maintenanceHeld | tagInUse | noReference | notFaulted | claimsPresent | inconsistent
  | targetFull
deriving DecidableEq, Repr

/-- R168: the byte of a result. -/
def Result.code : Result → Byte
  | .ok => 0 | .unknownRequest => 1 | .badLength => 2 | .badValue => 3 | .noSession => 4 | .wrongPort => 5
  | .sessionLapsed => 6 | .notPermitted => 7 | .noClaim => 8 | .notOwner => 9 | .retired => 10 | .staleEpoch => 11
  | .timebase => 12 | .quiesced => 13 | .committing => 14 | .priorityCeiling => 15 | .sessionFull => 16
  | .poolEmpty => 17 | .channelFaulted => 18 | .outOfLimits => 19 | .priorityTaken => 20 | .stackFull => 21
  | .notTop => 22 | .notMember => 23 | .mismatch => 24 | .empty => 25 | .sessionsExhausted => 26
  | .maintenanceHeld => 27 | .tagInUse => 28 | .noReference => 29 | .notFaulted => 30 | .claimsPresent => 31
  | .inconsistent => 32 | .targetFull => 33

/-! ## Request codes -/

/-- R164: the request codes. -/
inductive RequestCode where
  | openSession | closeSession | keepalive | claim | set | setIf | renew | release | transfer | revoke | fetch
  | queryClaim | queryChannel | queryDevice | clearFault | resume
  | profileRead | profileStage | profileCommit | profileDiscard
deriving DecidableEq, Repr

/-- R164: the byte of a request code. -/
def RequestCode.byte : RequestCode → Byte
  | .openSession => 0x01 | .closeSession => 0x02 | .keepalive => 0x03
  | .claim => 0x10 | .set => 0x11 | .setIf => 0x12 | .renew => 0x13 | .release => 0x14 | .transfer => 0x15
  | .revoke => 0x16 | .fetch => 0x20 | .queryClaim => 0x30 | .queryChannel => 0x31 | .queryDevice => 0x32
  | .clearFault => 0x40 | .resume => 0x41
  | .profileRead => 0x50 | .profileStage => 0x51 | .profileCommit => 0x52 | .profileDiscard => 0x53

/-- R164: every request code, in the table's order. -/
def RequestCode.all : List RequestCode :=
  [.openSession, .closeSession, .keepalive, .claim, .set, .setIf, .renew, .release, .transfer, .revoke, .fetch,
   .queryClaim, .queryChannel, .queryDevice, .clearFault, .resume,
   .profileRead, .profileStage, .profileCommit, .profileDiscard]

/-- R163 step 1: the code that byte 0 of a request names, if it is in the table. -/
def RequestCode.ofByte (b : Byte) : Option RequestCode := RequestCode.all.find? fun k => k.byte == b

/-! ## Request parameters -/

structure OpenParams where
  role : Role
  tag : BitVec 16
  interval : Nat
deriving DecidableEq, Repr

structure ClaimParams where
  priority : Nat
  disposition : Disposition
  lease : Nat
  tag : Option (BitVec 16)
  pairs : List Pair
deriving DecidableEq, Repr

structure SetParams where
  handle : WireHandle
  pairs : List Pair
deriving DecidableEq, Repr

structure SetIfParams where
  handle : WireHandle
  chan : Chan
  expected : Nat
  value : Nat
deriving DecidableEq, Repr

structure RenewParams where
  handle : WireHandle
  epoch : BitVec 8
  newLength : Option Nat
deriving DecidableEq, Repr

structure TransferParams where
  handle : WireHandle
  epoch : BitVec 8
  target : WireHandle
deriving DecidableEq, Repr

structure ProfileReadParams where
  source : Source
  fieldId : Nat
  chan : Chan
deriving DecidableEq, Repr

structure ProfileStageParams where
  fieldId : Nat
  chan : Chan
  value : Nat
deriving DecidableEq, Repr

/-- R163 step 2 for a request of fixed length: any other length is BAD_LENGTH. -/
def ofLength {α : Type} (l : Nat) (r : List Byte) (form : Option α) : Except Result α :=
  if r.length = l then (match form with | some a => .ok a | none => .error .badValue) else .error .badLength

/-- R166: a channel number lies between 0 and 47. -/
def chanOf (n : Nat) : Option Chan := if h : n < 48 then some ⟨n, h⟩ else none

/-- R166: one (channel, value) pair at byte `i`: channel 0 to 47, value 0 to 1023. -/
def pairAt (r : List Byte) (i : Nat) : Option Pair :=
  match chanOf (byteAt r i) with
  | some c => if wordAt r (i + 1) ≤ Config.maxValue then some ⟨c, wordAt r (i + 1)⟩ else none
  | none => none

/-- The `n` pairs from byte `i` on, when every one has its form. -/
def pairsAt (r : List Byte) : Nat → Nat → Option (List Pair)
  | _, 0 => some []
  | i, n + 1 =>
    match pairAt r i, pairsAt r (i + 3) n with
    | some q, some qs => some (q :: qs)
    | _, _ => none

/-- R166: 1 to 8 pairs from byte `i` on, no channel twice. -/
def pairListAt (r : List Byte) (i n : Nat) : Option (List Pair) :=
  if 1 ≤ n ∧ n ≤ 8 then
    match pairsAt r i n with
    | some qs => if (qs.map Pair.chan).Nodup then some qs else none
    | none => none
  else none

/-- R169: the role codes. -/
def roleOf : Nat → Option Role
  | 0 => some .control
  | 1 => some .maintenance
  | _ => none

/-- R169: the disposition codes. -/
def dispositionOf : Nat → Option Disposition
  | 0 => some .immediate
  | 1 => some .standby
  | _ => none

/-- R169: the source codes. -/
def sourceOf : Nat → Option Source
  | 0 => some .active
  | 1 => some .staging
  | _ => none

/-- R165, R166: OPEN. -/
def decodeOpen (r : List Byte) : Except Result OpenParams :=
  ofLength 8 r <|
    match roleOf (byteAt r 3) with
    | some role => if 10 ≤ wordAt r 6 then some ⟨role, BitVec.ofNat 16 (wordAt r 4), wordAt r 6⟩ else none
    | none => none

/-- R165: a request without parameters (CLOSE, KEEPALIVE, FETCH, QUERY_DEVICE, RESUME, PROFILE_COMMIT,
PROFILE_DISCARD). -/
def decodeNone (r : List Byte) : Except Result Unit := ofLength 3 r (some ())

/-- R165, R166: the tag of CLAIM; the tag bytes are not read when tag present is 0. -/
def claimTagAt (r : List Byte) : Option (Option (BitVec 16)) :=
  match byteAt r 7 with
  | 0 => some none
  | 1 => some (some (BitVec.ofNat 16 (wordAt r 8)))
  | _ => none

/-- R166: the field form of CLAIM. -/
def claimForm (r : List Byte) : Option ClaimParams :=
  match dispositionOf (byteAt r 4), claimTagAt r, pairListAt r 11 (byteAt r 10) with
  | some d, some tag, some qs =>
    if byteAt r 3 ≤ 15 ∧ 1 ≤ wordAt r 5 then some ⟨byteAt r 3, d, wordAt r 5, tag, qs⟩ else none
  | _, _, _ => none

/-- R164, R165, R166: CLAIM. Its length reaches the pair count n and equals 11 + 3n. -/
def decodeClaim (r : List Byte) : Except Result ClaimParams :=
  if r.length < 11 then .error .badLength else ofLength (11 + 3 * byteAt r 10) r (claimForm r)

/-- R164, R165, R166: SET. Its length reaches the pair count n and equals 6 + 3n. -/
def decodeSet (r : List Byte) : Except Result SetParams :=
  if r.length < 6 then .error .badLength
  else ofLength (6 + 3 * byteAt r 5) r <|
    match pairListAt r 6 (byteAt r 5) with
    | some qs => some ⟨handleAt r 3, qs⟩
    | none => none

/-- R165, R166: SET_IF. -/
def decodeSetIf (r : List Byte) : Except Result SetIfParams :=
  ofLength 10 r <|
    match chanOf (byteAt r 5) with
    | some c =>
      if wordAt r 6 ≤ Config.maxValue ∧ wordAt r 8 ≤ Config.maxValue then
        some ⟨handleAt r 3, c, wordAt r 6, wordAt r 8⟩
      else none
    | none => none

/-- R164, R165, R166: RENEW, of length 6, or 8 with a new lease length. -/
def decodeRenew (r : List Byte) : Except Result RenewParams :=
  if r.length = 6 then .ok ⟨handleAt r 3, r.getD 5 0#8, none⟩
  else ofLength 8 r (if 1 ≤ wordAt r 6 then some ⟨handleAt r 3, r.getD 5 0#8, some (wordAt r 6)⟩ else none)

/-- R165: a request whose one parameter is a claim handle (RELEASE, REVOKE, QUERY_CLAIM). -/
def decodeHandle (r : List Byte) : Except Result WireHandle := ofLength 5 r (some (handleAt r 3))

/-- R165: TRANSFER. -/
def decodeTransfer (r : List Byte) : Except Result TransferParams :=
  ofLength 8 r (some ⟨handleAt r 3, r.getD 5 0#8, handleAt r 6⟩)

/-- R165, R166: a request whose one parameter is a channel (QUERY_CHANNEL, CLEAR_FAULT). -/
def decodeChannel (r : List Byte) : Except Result Chan := ofLength 4 r (chanOf (byteAt r 3))

/-- R165, R166: PROFILE_READ. -/
def decodeProfileRead (r : List Byte) : Except Result ProfileReadParams :=
  ofLength 6 r <|
    match sourceOf (byteAt r 3), chanOf (byteAt r 5) with
    | some src, some c => some ⟨src, byteAt r 4, c⟩
    | _, _ => none

/-- R165, R166: PROFILE_STAGE. -/
def decodeProfileStage (r : List Byte) : Except Result ProfileStageParams :=
  ofLength 7 r <|
    match chanOf (byteAt r 4) with
    | some c => some ⟨byteAt r 3, c, wordAt r 5⟩
    | none => none

/-! ## The host's question -/

/-- The command a word spells by the bits of spec/opcode_table.json. No row of the table gives bits, so no word
spells a command (log entry 20). -/
def decodeTableWord (_nbits _w : Nat) : Option Instr := none

end Sys2Proof
end

