-- ==== Sys2Proof/Machine/State.lean ====
section
/-! DEFINITION. The state of the SZ4816: every record, flag, list and copy the spec gives its blocks, each block's in a
structure of its own, as plain data; what one block has handed another and the other has not yet taken; and the queue
of waiting commands. `State.reset` is the machine right after device reset. -/

namespace Sys2Proof.Machine

/-- Why a step can stop with a fault. It has no constructor: the part has no fault state, the spec gives every
command of the table an effect, and what cannot be served is answered with a result code (log entry 24). -/
inductive Fault where
deriving DecidableEq, Repr

/-- Why a command has no meaning. -/
inductive Refusal where
  /-- Raised by an arm of `exec` whose row has no meaning yet; no arm raises it now. Safe: the machine stops. -/
  | notModelled (mnemonic : String)
deriving DecidableEq, Repr

/-! ## Device items (R115, R134) -/

/-- R115. -/
inductive SupervisorState where
  | starting
  | locked
  | holdover
  | lapsed
deriving DecidableEq, Repr

/-- R134: the last commit outcome. -/
inductive CommitOutcome where
  | none
  | done
  | failed
deriving DecidableEq, Repr

/-! ## Link ports (R148) -/

inductive PortState where
  | starting
  | ready
  | working
  | answering
deriving DecidableEq, Repr

/-- R148: a request handed to the decoder whose response the port has not yet taken. -/
structure InFlight where
  bytes : List Byte
  abandoned : Bool
deriving DecidableEq, Repr

/-- R149, R150: what the port fixed at the fall of chip select. -/
structure OpenTransaction where
  stateAtFall : PortState
  status : Byte
deriving DecidableEq, Repr

/-- R173: the profile store's items, read together. -/
structure StoreItems where
  generation : BitVec 32
  defaulted : Bool
  committing : Bool
  outcome : CommitOutcome
deriving DecidableEq, Repr

/-- R173: what the decoder has read for a QUERY_DEVICE, each block's items together and each block at its own moment. -/
structure DeviceReading where
  supervisor : Option (SupervisorState × Bool)
  quiesced : Option Bool
  freeRecords : Option Nat
  openSessions : Option Nat
  store : Option StoreItems
deriving DecidableEq, Repr

/-- R148: one link port. `csLow` is the level of its chip select pin (R149, log entry 30). The model's own are `produced`,
the response on its way from the decoder (log entry 8), `reading`, what the decoder has read for the QUERY_DEVICE in
flight (log entry 25), and `shiftedOut` and `shiftedBits`, the whole bytes and the last bits SDO carried in the last
ended transaction (log entry 22). -/
structure Port where
  state : PortState
  inFlight : Option InFlight
  produced : Option (List Byte)
  reading : Option DeviceReading
  waiting : Option (List Byte)
  buffer : Option (List Byte)
  dropped : Bool
  csLow : Bool
  transaction : Option OpenTransaction
  shiftedOut : List Byte
  shiftedBits : List Bool
deriving DecidableEq, Repr

structure Ports where
  port0 : Port
  port1 : Port
deriving DecidableEq, Repr

/-! ## Sessions (R48, R51) -/

/-- The name of a session record, slot and generation. -/
structure SessionId where
  slot : Slot
  gen : BitVec 8
deriving DecidableEq, Repr

/-- R48: the fields that are absent unless the session is OPEN. -/
structure SessionInfo where
  port : PortId
  role : Role
  tag : BitVec 16
  interval : Nat
  remaining : Nat
deriving DecidableEq, Repr

inductive SessionState where
  | closed
  | opened (info : SessionInfo)
  | lapsed
deriving DecidableEq, Repr

structure Session where
  gen : BitVec 8
  state : SessionState
deriving DecidableEq, Repr

/-- R48, R51: the session table; `lapseList` holds the LAPSED slots, earliest first. -/
structure SessionTable where
  recs : Table 8 Session
  lapseList : List Slot
deriving DecidableEq, Repr

/-! ## Claims (R1, R5) -/

/-- The name of a claim record, index and generation. -/
structure ClaimHandle where
  index : RecIdx
  gen : BitVec 8
deriving DecidableEq, Repr

inductive RetireReason where
  | expired
  | swept
  | revoked
deriving DecidableEq, Repr

/-- R1: the fields that are absent when the record is FREE. The channel list and the value list are one list of
pairs, in the order of the granting request. -/
structure ClaimBody where
  owner : SessionId
  priority : Nat
  pairs : List Pair
  leaseLength : Nat
  remaining : Nat
  epoch : BitVec 8
  tag : Option (BitVec 16)
deriving DecidableEq, Repr

inductive ClaimState where
  | free
  | live (body : ClaimBody)
  | retired (body : ClaimBody) (why : RetireReason)
deriving DecidableEq, Repr

structure ClaimRecord where
  gen : BitVec 8
  state : ClaimState
deriving DecidableEq, Repr

/-- R1, R5: the claim pool and the holder stacks, each stack top first. -/
structure ClaimTable where
  recs : Table 64 ClaimRecord
  holders : Table 48 (List RecIdx)
deriving DecidableEq, Repr

/-! ## Attention lists (R65, R66) -/

/-- R169: a reason set, one bit for each reason. -/
abbrev ReasonSet := BitVec 8

inductive DeviceKind where
  | timebase
  | quiesce
  | profile
deriving DecidableEq, Repr

inductive Entry where
  | claim (handle : ClaimHandle) (reasons : ReasonSet)
  | device (kind : DeviceKind)
deriving DecidableEq, Repr

/-- R65: one list for each slot, oldest entry first. -/
abbrev Attention := Table 8 (List Entry)

/-! ## Output stage (R81, R84, R85) -/

inductive OutputState where
  | disabled
  | enabled
deriving DecidableEq, Repr

inductive Condition where
  | normal
  | faulted
deriving DecidableEq, Repr

inductive RampState where
  | settled
  | ramping
deriving DecidableEq, Repr

/-- R81: one channel record; `latched` is the output value held for the present carrier period (R85). -/
structure Channel where
  outputState : OutputState
  condition : Condition
  topValue : Option Nat
  target : Nat
  output : Nat
  rampState : RampState
  rest : Nat
  low : Nat
  high : Nat
  rate : Nat
  latched : Nat
deriving DecidableEq, Repr

/-- R81, R84, R85. -/
structure OutputStage where
  quiesced : Bool
  chans : Table 48 Channel
  carrier : Nat
deriving DecidableEq, Repr

/-! ## Readback monitor (R101) -/

/-- R101: the conversion in flight. -/
structure Conversion where
  chan : Chan
  outputAtStart : Nat
  disturbed : Bool
deriving DecidableEq, Repr

/-- R101: the monitor state, with the conversion in flight while CONVERTING. -/
inductive MonitorState where
  | stopped
  | converting (conversion : Conversion)
  | waiting
deriving DecidableEq, Repr

/-- R101: the monitor's per-channel items. -/
structure MonitorChannel where
  missCount : Nat
  enable : Bool
  tolerance : Nat
  missLimit : Nat
deriving DecidableEq, Repr

structure Monitor where
  state : MonitorState
  scanPos : Chan
  chans : Table 48 MonitorChannel
deriving DecidableEq, Repr

/-! ## Timebase supervisor (R115) -/

inductive TickSource where
  | refclkEdges
  | internalPeriods
deriving DecidableEq, Repr

structure Supervisor where
  state : SupervisorState
  refPresent : Bool
  windowPos : Nat
  edgeCount : Nat
  goodRun : Nat
  holdoverRemaining : Option Nat
  source : TickSource
  dividerCount : Nat
  producing : Bool
  prescaler : Nat
  holdoverDivider : Nat
  holdoverPeriod : Nat
deriving DecidableEq, Repr

/-! ## Profile store (R132, R134) -/

/-- R132: the seven fields of one channel. -/
structure ChannelProfile where
  rest : Nat
  low : Nat
  high : Nat
  rate : Nat
  enable : Nat
  tolerance : Nat
  missLimit : Nat
deriving DecidableEq, Repr

/-- R132: a rest profile. -/
structure Profile where
  prescaler : Nat
  holdoverDivider : Nat
  holdoverPeriod : Nat
  ceiling0 : Nat
  ceiling1 : Nat
  generation : BitVec 32
  chans : Table 48 ChannelProfile
deriving DecidableEq, Repr

/-- R133: the two nonvolatile copies. -/
inductive CopyId where
  | copyA
  | copyB
deriving DecidableEq, Repr

/-- R134: the commit in flight, its target and its image. -/
structure Commit where
  target : CopyId
  image : Profile
deriving DecidableEq, Repr

/-- R135: what the start-up load has chosen. -/
structure LoadChoice where
  profile : Profile
  copy : Option CopyId
  defaulted : Bool
deriving DecidableEq, Repr

structure ProfileStore where
  copyA : List Byte
  copyB : List Byte
  active : Profile
  activeCopy : Option CopyId
  defaulted : Bool
  staging : Profile
  loadInProgress : Bool
  loadChoice : Option LoadChoice
  commit : Option Commit
  lastOutcome : CommitOutcome
deriving DecidableEq, Repr

/-! ## Events handed from block to block and not yet taken (log entries 7 and 8) -/

/-- R9: a report of the claim table to the output stage. -/
inductive Report where
  /-- a new top: the record, and the value it holds for the channel -/
  | newTop (handle : ClaimHandle) (value : Nat)
  /-- the stack is empty -/
  | emptyStack
  /-- a new value of the top record -/
  | newValue (value : Nat)
deriving DecidableEq, Repr

/-- R118: ticks handed to each block and not yet taken by it. -/
structure TicksOwed where
  claimTable : Nat
  sessionTable : Nat
  outputStage : Nat
  readbackMonitor : Nat
  supervisor : Nat
deriving DecidableEq, Repr

structure Transit where
  /-- claim table to output stage, for each channel, oldest first (R9) -/
  reports : Table 48 (List Report)
  /-- readback monitor to output stage (R109) -/
  faultReports : List Chan
  /-- output stage to claim table (R95, R26) -/
  faultNotices : List Chan
  ticks : TicksOwed
deriving DecidableEq, Repr

/-! ## The machine -/

structure State where
  /-- commands waiting, first in first out (the model's own) -/
  pending : List Instr
  /-- RESETn is held low -/
  resetHeld : Bool
  /-- the QUIESCEn pin is low -/
  quiescenLow : Bool
  ports : Ports
  sessions : SessionTable
  claims : ClaimTable
  attention : Attention
  outputs : OutputStage
  monitor : Monitor
  supervisor : Supervisor
  store : ProfileStore
  transit : Transit
deriving DecidableEq, Repr

/-! ## Reset values -/

/-- R132: the built-in defaults of one channel. -/
def defaultChannelProfile : ChannelProfile :=
  { rest := 0, low := 0, high := Config.maxValue, rate := 0, enable := 0,
    tolerance := Config.defaultTolerance, missLimit := Config.defaultMissLimit }

/-- R132: the built-in defaults. -/
def defaultProfile : Profile :=
  { prescaler := Config.defaultPrescaler, holdoverDivider := Config.defaultHoldoverDivider,
    holdoverPeriod := Config.defaultHoldoverPeriod, ceiling0 := Config.defaultCeiling,
    ceiling1 := Config.defaultCeiling, generation := 0#32, chans := .replicate defaultChannelProfile }

/-- R148, its chip select high; `shiftedOut` and `shiftedBits` DESIGN CHOICE, log entry 22. -/
def resetPort : Port :=
  { state := .starting, inFlight := none, produced := none, reading := none, waiting := none, buffer := none,
    dropped := false, csLow := false, transaction := none, shiftedOut := [], shiftedBits := [] }

/-- R48. -/
def resetSessions : SessionTable := { recs := .replicate ⟨0#8, .closed⟩, lapseList := [] }

/-- R1, R5. -/
def resetClaims : ClaimTable := { recs := .replicate ⟨0#8, .free⟩, holders := .replicate [] }

/-- R81; `latched` DESIGN CHOICE, log entry 17. -/
def resetChannel : Channel :=
  { outputState := .disabled, condition := .normal, topValue := none, target := 0, output := 0,
    rampState := .settled, rest := 0, low := 0, high := Config.maxValue, rate := 0, latched := 0 }

/-- R81, R84; `carrier` DESIGN CHOICE, log entry 17. -/
def resetOutputs : OutputStage := { quiesced := false, chans := .replicate resetChannel, carrier := 0 }

/-- R101, R112. -/
def resetMonitor : Monitor :=
  { state := .stopped, scanPos := 0,
    chans := .replicate { missCount := 0, enable := false, tolerance := Config.defaultTolerance,
                          missLimit := Config.defaultMissLimit } }

/-- R115. -/
def resetSupervisor : Supervisor :=
  { state := .starting, refPresent := false, windowPos := 0, edgeCount := 0, goodRun := 0,
    holdoverRemaining := none, source := .internalPeriods, dividerCount := 0, producing := false,
    prescaler := Config.defaultPrescaler, holdoverDivider := Config.defaultHoldoverDivider,
    holdoverPeriod := Config.defaultHoldoverPeriod }

/-- R134, over copies that keep their contents; `staging` DESIGN CHOICE, log entry 3. -/
def resetStore (copyA copyB : List Byte) : ProfileStore :=
  { copyA := copyA, copyB := copyB, active := defaultProfile, activeCopy := none, defaulted := false,
    staging := defaultProfile, loadInProgress := true, loadChoice := none, commit := none, lastOutcome := .none }

/-- Nothing in transit. -/
def resetTransit : Transit :=
  { reports := .replicate [], faultReports := [], faultNotices := [],
    ticks := { claimTable := 0, sessionTable := 0, outputStage := 0, readbackMonitor := 0, supervisor := 0 } }

/-- The machine at its reset values with RESETn held low, for given copies, queue and levels of QUIESCEn, CS0n and CS1n:
what every device reset leaves (R1, R48, R65, R81, R101, R115, R134, R148). -/
def State.atReset (copyA copyB : List Byte) (pending : List Instr) (quiescenLow cs0Low cs1Low : Bool) : State :=
  { pending := pending, resetHeld := true, quiescenLow := quiescenLow,
    ports := ⟨{ resetPort with csLow := cs0Low }, { resetPort with csLow := cs1Low }⟩,
    sessions := resetSessions, claims := resetClaims,
    attention := .replicate [], outputs := resetOutputs, monitor := resetMonitor, supervisor := resetSupervisor,
    store := resetStore copyA copyB, transit := resetTransit }

/-- The machine right after device reset, RESETn still held low. DESIGN CHOICE: both copies erased (log entry 2),
QUIESCEn high (log entry 16), CS0n and CS1n high (log entry 30). -/
def State.reset : State := State.atReset Config.firstCopy Config.firstCopy [] false false false

end Sys2Proof.Machine
end

