-- ==== Sys2Proof/Machine/Flags.lean ====
section
/-! DEFINITION. What is read off the records and never stored beside them: which sessions are OPEN, tops, standings and
owned counts, the ATTN lines, the status byte, the OUT pins, and the codes of the enumerated items (R169). -/

namespace Sys2Proof.Machine

/-! ## Ports -/

/-- The record of port `p`. -/
def Ports.get (ps : Ports) : PortId → Port
  | .port0 => ps.port0
  | .port1 => ps.port1

/-! ## Sessions -/

/-- The fields of a session that are present while it is OPEN. -/
def SessionState.info? : SessionState → Option SessionInfo
  | .opened info => some info
  | .closed => none
  | .lapsed => none

/-- The fields of the session in `slot`, if it is OPEN. -/
def SessionTable.info? (t : SessionTable) (slot : Slot) : Option SessionInfo := (t.recs.get slot).state.info?

/-- The slot is OPEN. -/
def SessionTable.isOpen (t : SessionTable) (slot : Slot) : Bool := (t.info? slot).isSome

/-- The handle of the session the slot holds or last held. -/
def SessionTable.idOf (t : SessionTable) (slot : Slot) : SessionId := ⟨slot, (t.recs.get slot).gen⟩

/-- The slots, in ascending order, that are OPEN. -/
def SessionTable.openSlots (t : SessionTable) : List Slot := (List.finRange 8).filter t.isOpen

/-- The slot a wire handle names: slot number 0 to 7 and equal generation (R50). -/
def SessionTable.named (t : SessionTable) (h : WireHandle) : Option Slot :=
  if lt : h.low.toNat < 8 then
    (if (t.recs.get ⟨h.low.toNat, lt⟩).gen = h.gen then some ⟨h.low.toNat, lt⟩ else none)
  else none

/-! ## Claims -/

/-- The fields present while a record is LIVE or RETIRED. -/
def ClaimState.body? : ClaimState → Option ClaimBody
  | .free => none
  | .live b => some b
  | .retired b _ => some b

/-- The fields of record `i`, if it is LIVE or RETIRED. -/
def ClaimTable.body? (t : ClaimTable) (i : RecIdx) : Option ClaimBody := (t.recs.get i).state.body?

/-- The fields of record `i`, if it is LIVE. -/
def ClaimTable.live? (t : ClaimTable) (i : RecIdx) : Option ClaimBody :=
  match (t.recs.get i).state with
  | .live b => some b
  | .free => none
  | .retired _ _ => none

/-- The handle record `i` has at present. -/
def ClaimTable.handle (t : ClaimTable) (i : RecIdx) : ClaimHandle := ⟨i, (t.recs.get i).gen⟩

/-- The priority of record `i`; 0 for a FREE record, which is on no stack. -/
def ClaimTable.priority (t : ClaimTable) (i : RecIdx) : Nat :=
  match t.body? i with
  | some b => b.priority
  | none => 0

/-- The top of a channel's stack. -/
def ClaimTable.top (t : ClaimTable) (c : Chan) : Option RecIdx := (t.holders.get c).head?

/-- The channels a claim lists, in list order. -/
def ClaimBody.chans (b : ClaimBody) : List Chan := b.pairs.map Pair.chan

/-- The value a claim holds for a channel, if it lists the channel. -/
def ClaimBody.valueOn (b : ClaimBody) (c : Chan) : Option Nat := (b.pairs.find? fun q => q.chan == c).map Pair.value

/-- The value record `i` holds for channel `c`; 0 where the record does not list the channel, which no stack shows. -/
def ClaimTable.valueOn (t : ClaimTable) (i : RecIdx) (c : Chan) : Nat :=
  match t.body? i with
  | some b => (b.valueOn c).getD 0
  | none => 0

/-- R8. -/
inductive Standing where
  | driving
  | partially
  | waiting
deriving DecidableEq, Repr

/-- R8: the standing of record `i` over the channels it lists, taken from the stacks as they stand. -/
def ClaimTable.standing (t : ClaimTable) (i : RecIdx) (cs : List Chan) : Standing :=
  if cs.all fun c => t.top c == some i then .driving
  else if cs.any fun c => t.top c == some i then .partially
  else .waiting

/-- Record `i` is LIVE or RETIRED and owned by `id`. -/
def ClaimTable.ownedBy (t : ClaimTable) (id : SessionId) (i : RecIdx) : Bool :=
  match t.body? i with
  | some b => b.owner == id
  | none => false

/-- The records, in ascending index order, that a session owns. -/
def ClaimTable.owned (t : ClaimTable) (id : SessionId) : List RecIdx := (List.finRange 64).filter (t.ownedBy id)

/-- R4: the owned count of a session, derived from the pool. -/
def ClaimTable.ownedCount (t : ClaimTable) (id : SessionId) : Nat := (t.owned id).length

/-- The record is FREE. -/
def ClaimTable.isFree (t : ClaimTable) (i : RecIdx) : Bool := (t.body? i).isNone

/-- R173: the number of FREE records. -/
def ClaimTable.freeCount (t : ClaimTable) : Nat := ((List.finRange 64).filter t.isFree).length

/-! ## Pins and the status byte -/

/-- R77: the port's ATTN line is asserted exactly when some OPEN session bound to the port has a non-empty list. -/
def attnAsserted (s : State) (p : PortId) : Bool :=
  (List.finRange 8).any fun slot =>
    (match s.sessions.info? slot with | some info => info.port == p | none => false)
      && !(s.attention.get slot).isEmpty

/-- R85: the level of OUTn; low while DISABLED (R82), else high for the first `latched` oscillator periods of each
carrier period. -/
def outPin (s : State) (c : Chan) : Bool :=
  (s.outputs.chans.get c).outputState == .enabled && decide (s.outputs.carrier < (s.outputs.chans.get c).latched)

/-- R150: the codes of the port states. -/
def PortState.code : PortState → Nat
  | .starting => 0
  | .ready => 1
  | .working => 2
  | .answering => 3

/-- R150, R169: the codes of the supervisor states. -/
def SupervisorState.code : SupervisorState → Nat
  | .starting => 0
  | .locked => 1
  | .holdover => 2
  | .lapsed => 3

/-- R150: the status byte the port forms from the conditions as they stand. -/
def statusByte (s : State) (p : PortId) : Byte :=
  BitVec.ofNat 8 ((s.ports.get p).state.code * 64 + (attnAsserted s p).toNat * 32 + (s.ports.get p).dropped.toNat * 16
    + s.supervisor.state.code * 4 + s.outputs.quiesced.toNat * 2 + s.store.defaulted.toNat)

/-! ## Codes of the enumerated items in responses (R169) -/

/-- R66, R169: the reasons, in the order of their bits. -/
inductive Reason where
  | preempted
  | resumed
  | expired
  | swept
  | revoked
  | fault
  | faultCleared
  | adopted
deriving DecidableEq, Repr

/-- R169: the bit of a reason in a reason set. -/
def Reason.mask : Reason → ReasonSet
  | .preempted => 0x01#8
  | .resumed => 0x02#8
  | .expired => 0x04#8
  | .swept => 0x08#8
  | .revoked => 0x10#8
  | .fault => 0x20#8
  | .faultCleared => 0x40#8
  | .adopted => 0x80#8

/-- R23: the notice a retirement posts. -/
def RetireReason.reason : RetireReason → Reason
  | .expired => .expired
  | .swept => .swept
  | .revoked => .revoked

def RetireReason.code : RetireReason → Nat
  | .expired => 1
  | .swept => 2
  | .revoked => 3

def Standing.code : Standing → Nat
  | .driving => 0
  | .partially => 1
  | .waiting => 2

def RampState.code : RampState → Nat
  | .settled => 0
  | .ramping => 1

def Condition.code : Condition → Nat
  | .normal => 0
  | .faulted => 1

def CommitOutcome.code : CommitOutcome → Nat
  | .none => 0
  | .done => 1
  | .failed => 2

def DeviceKind.code : DeviceKind → Nat
  | .timebase => 1
  | .quiesce => 2
  | .profile => 3

def Source.code : Source → Nat
  | .active => 0
  | .staging => 1

/-- A claim handle on the link: generation, then index (00 Conventions, R165). -/
def ClaimHandle.bytes (h : ClaimHandle) : List Byte := [h.gen, BitVec.ofNat 8 h.index.val]

/-- A session handle on the link: generation, then slot. -/
def SessionId.bytes (h : SessionId) : List Byte := [h.gen, BitVec.ofNat 8 h.slot.val]

/-- Tag present, then the tag, 0x0000 when absent: so R171 for FETCH. DESIGN CHOICE for QUERY_CLAIM, where R172 gives no
value for the tag bytes of an absent tag (log entry 32). -/
def tagBytes : Option (BitVec 16) → List Byte
  | none => [0#8, 0#8, 0#8]
  | some t => 1#8 :: be16 t.toNat

end Sys2Proof.Machine
end

