-- ==== Sys2Proof/Machine/Ops.lean ====
section
/-! DEFINITION. The named operations the meanings share: notices and attention lists, the holder stacks and the change
of tops, retirement and freeing, the channel records, the scan of the readback monitor, the end of a session. Each
operation on the whole state is one update of the fields it may change. -/

namespace Sys2Proof.Machine

/-! ## Ports -/

/-- Port `p` changed by `f`. -/
def Ports.modify (ps : Ports) (p : PortId) (f : Port → Port) : Ports :=
  match p with
  | .port0 => { ps with port0 := f ps.port0 }
  | .port1 => { ps with port1 := f ps.port1 }

/-- Port `p` of the state changed by `f`. -/
def State.modifyPort (s : State) (p : PortId) (f : Port → Port) : State := { s with ports := s.ports.modify p f }

/-! ## Attention lists (R65 to R70, R74 to R76) -/

/-- R67: a claim notice joins the entry for its record, which keeps its place, or raises a new entry at the tail. -/
def addReasons (h : ClaimHandle) (why : ReasonSet) : List Entry → List Entry
  | [] => [.claim h why]
  | .claim h' rs :: l =>
    if h'.index = h.index then .claim h' (rs ||| why) :: l else .claim h' rs :: addReasons h why l
  | .device k :: l => .device k :: addReasons h why l

/-- R68: a device notice raises an entry of its kind at the tail, if the list holds none. -/
def addDevice (k : DeviceKind) (l : List Entry) : List Entry := if .device k ∈ l then l else l ++ [.device k]

/-- The entry is the claim entry of record `i`. -/
def Entry.isFor (i : RecIdx) : Entry → Bool
  | .claim h _ => h.index == i
  | .device _ => false

/-- R74: the record's claim entry removed from its place, if the list holds one. -/
def removeEntry (i : RecIdx) (l : List Entry) : List Entry := l.filter fun e => !e.isFor i

/-- R75: the reasons the record's claim entry carries; none when the list holds no entry for it. -/
def reasonsFor (i : RecIdx) : List Entry → ReasonSet
  | [] => 0#8
  | .claim h rs :: l => if h.index = i then rs else reasonsFor i l
  | .device _ :: l => reasonsFor i l

/-- R67: one claim notice for record `i`, taken for the record's owner. -/
def Attention.notice (t : ClaimTable) (why : Reason) (a : Attention) (i : RecIdx) : Attention :=
  match t.body? i with
  | some b => a.modify b.owner.slot (addReasons (t.handle i) why.mask)
  | none => a

/-- R69: one claim notice for each record, in the order given. -/
def State.notices (s : State) (is : List RecIdx) (why : Reason) : State :=
  { s with attention := is.foldl (Attention.notice s.claims why) s.attention }

/-- R70: a device notice for every OPEN session. -/
def State.deviceNotice (s : State) (k : DeviceKind) : State :=
  { s with attention := s.attention.mapIdx fun slot l => if s.sessions.isOpen slot then addDevice k l else l }

/-- R70: a device notice for the OPEN MAINTENANCE session, if there is one. -/
def State.maintenanceNotice (s : State) (k : DeviceKind) : State :=
  { s with attention := s.attention.mapIdx fun slot l =>
      if (s.sessions.info? slot).any (fun info => info.role == .maintenance) then addDevice k l else l }

/-! ## Holder stacks (R5 to R9) -/

/-- R7: the record placed directly below the lowest record of higher priority, or at the top. -/
def insertHolder (t : ClaimTable) (i : RecIdx) (priority : Nat) : List RecIdx → List RecIdx
  | [] => [i]
  | j :: l => if priority < t.priority j then j :: insertHolder t i priority l else i :: j :: l

/-- R6, R7: a record just granted, inserted on the stack of every channel it lists. -/
def ClaimTable.insert (t : ClaimTable) (i : RecIdx) (b : ClaimBody) : ClaimTable :=
  { t with holders := t.holders.mapIdx fun c l => if c ∈ b.chans then insertHolder t i b.priority l else l }

/-- R6, R7: a record removed from every stack it is on; the records below it each move up. -/
def ClaimTable.remove (t : ClaimTable) (i : RecIdx) : ClaimTable := { t with holders := t.holders.map (·.erase i) }

/-- The state of record `i` replaced. -/
def ClaimTable.setState (t : ClaimTable) (i : RecIdx) (st : ClaimState) : ClaimTable :=
  { t with recs := t.recs.modify i fun r => { r with state := st } }

/-- R2: a record freed: off every stack, its fields absent, its generation kept. -/
def ClaimTable.free (t : ClaimTable) (i : RecIdx) : ClaimTable := (t.remove i).setState i .free

/-- R23 step 1: a LIVE record retired: off every stack, its reason set, its other fields kept. -/
def ClaimTable.retire (why : RetireReason) (t : ClaimTable) (i : RecIdx) : ClaimTable :=
  match t.live? i with
  | some b => (t.remove i).setState i (.retired b why)
  | none => t

/-- R9: the report of a channel's top as it stands. -/
def ClaimTable.topReport (t : ClaimTable) (c : Chan) : Report :=
  match t.top c with
  | some i => .newTop (t.handle i) (t.valueOn i c)
  | none => .emptyStack

/-- The channels, of those listed, whose top is not what it was before. -/
def ClaimTable.changedTops (now before : ClaimTable) (cs : List Chan) : List Chan :=
  cs.filter fun c => now.top c != before.top c

/-- R9: a report handed to the output stage, behind those already sent for the channel. -/
def Transit.send (tr : Transit) (c : Chan) (r : Report) : Transit :=
  { tr with reports := tr.reports.modify c (· ++ [r]) }

/-- R9: the reports of one event, each for a channel of its own. -/
def Transit.sendAll (tr : Transit) (rs : List (Chan × Report)) : Transit :=
  rs.foldl (fun tr cr => tr.send cr.1 cr.2) tr

/-- R9, R10: the effects of a removal handed on. For each listed channel whose top is not what it was before, the new
top or the empty stack is reported; then RESUMED is posted for each claim that comes to a top, in the order listed. -/
def State.handTops (s : State) (before : ClaimTable) (cs : List Chan) : State :=
  { s with
    transit := s.transit.sendAll ((s.claims.changedTops before cs).map fun c => (c, s.claims.topReport c))
    attention := ((s.claims.changedTops before cs).filterMap s.claims.top).foldl
      (Attention.notice s.claims .resumed) s.attention }

/-- R23 steps 1 and 2 for each record, in the order given (R34, R45): retirement, then its notice. Owner and handle
are kept by a retirement, so the notices are those of the table before it. -/
def State.retireAll (s : State) (is : List RecIdx) (why : RetireReason) : State :=
  { s with
    claims := is.foldl (ClaimTable.retire why) s.claims
    attention := is.foldl (Attention.notice s.claims why.reason) s.attention }

/-- Every channel, in ascending order. -/
def allChans : List Chan := List.finRange 48

/-- R23: one record retired, with the effects of its removal in the record's channel-list order. -/
def State.retireOne (s : State) (i : RecIdx) (why : RetireReason) : State :=
  (s.retireAll [i] why).handTops s.claims ((s.claims.body? i).elim [] ClaimBody.chans)

/-- R34, R45: many records retired at one event, with the effects of the removals handed on once, in ascending
channel number. -/
def State.retireMany (s : State) (is : List RecIdx) (why : RetireReason) : State :=
  (s.retireAll is why).handTops s.claims allChans

/-- R25: every record a session owns becomes FREE, and the changed tops are handed on in ascending channel number. -/
def State.teardown (s : State) (id : SessionId) : State :=
  { s with claims := (s.claims.owned id).foldl ClaimTable.free s.claims }.handTops s.claims allChans

/-! ## The end of a session (R62) -/

/-- R62: a session end: teardown, the list emptied, staging reset for the MAINTENANCE session, then the slot's state.
A slot left LAPSED joins the end of the lapse list (R51). -/
def State.endSession (s : State) (slot : Slot) (info : SessionInfo) (lapses : Bool) : State :=
  { s.teardown (s.sessions.idOf slot) with
    attention := (s.teardown (s.sessions.idOf slot)).attention.set slot []
    store := if info.role = .maintenance then { s.store with staging := s.store.active } else s.store
    sessions :=
      { recs := s.sessions.recs.modify slot fun r => { r with state := if lapses then .lapsed else .closed }
        lapseList := if lapses then s.sessions.lapseList ++ [slot] else s.sessions.lapseList } }

/-! ## Channel records (R86 to R98) -/

/-- R87: the target of an ENABLED record, computed from its own fields and the quiesced flag. -/
def Channel.wanted (ch : Channel) (quiesced : Bool) : Nat :=
  if quiesced ∨ ch.condition = .faulted then ch.rest else ch.topValue.getD ch.rest

/-- R88: a new target: the output steps at rate 0, and otherwise moves at the following ticks. -/
def Channel.moveTo (ch : Channel) (t : Nat) : Channel :=
  if ch.rate = 0 then { ch with target := t, output := t, rampState := .settled }
  else if t = ch.output then { ch with target := t, rampState := .settled }
  else { ch with target := t, rampState := .ramping }

/-- R87: the target recomputed; a recomputation that gives the target it had changes nothing. -/
def Channel.retarget (ch : Channel) (quiesced : Bool) : Channel :=
  if ch.wanted quiesced = ch.target then ch else ch.moveTo (ch.wanted quiesced)

/-- R92, R94, R95: the output stepped to the rest value, whatever the ramp rate. -/
def Channel.stepToRest (ch : Channel) : Channel :=
  { ch with target := ch.rest, output := ch.rest, rampState := .settled }

/-- Only an ENABLED record is changed (R82). -/
def Channel.whenEnabled (f : Channel → Channel) (ch : Channel) : Channel :=
  match ch.outputState with
  | .enabled => f ch
  | .disabled => ch

/-- R89: the output after one ramp step toward the target, by at most the ramp rate. -/
def Channel.steppedOutput (ch : Channel) : Nat :=
  if ch.output < ch.target then min ch.target (ch.output + ch.rate) else max ch.target (ch.output - ch.rate)

/-- R89: one tick at a RAMPING record; one that reaches its target becomes SETTLED. -/
def Channel.rampTick (ch : Channel) : Channel :=
  match ch.rampState with
  | .settled => ch
  | .ramping =>
    { ch with output := ch.steppedOutput
              rampState := if ch.steppedOutput = ch.target then .settled else .ramping }

/-- R107: the conversion in flight marked disturbed. -/
def Monitor.disturb (m : Monitor) : Monitor :=
  match m.state with
  | .converting cv => { m with state := .converting { cv with disturbed := true } }
  | .stopped => m
  | .waiting => m

/-- R91, R107: a change of the output field of the channel being converted disturbs the conversion. -/
def Monitor.noteOutputs (m : Monitor) (before after : Table 48 Channel) : Monitor :=
  match m.state with
  | .converting cv => if (after.get cv.chan).output = (before.get cv.chan).output then m else m.disturb
  | .stopped => m
  | .waiting => m

/-- Channel records changed as part of one event, each change of output handed to the readback monitor (R91). -/
def State.changeChannels (s : State) (f : Chan → Channel → Channel) : State :=
  { s with
    outputs := { s.outputs with chans := s.outputs.chans.mapIdx f }
    monitor := s.monitor.noteOutputs s.outputs.chans (s.outputs.chans.mapIdx f) }

/-- One channel record changed as part of one event. -/
def State.changeChannel (s : State) (c : Chan) (f : Channel → Channel) : State :=
  s.changeChannels fun c' ch => if c' = c then f ch else ch

/-! ## The scan of the readback monitor (R103, R104) -/

/-- R103: the channel is eligible for conversion, as the records stand. A channel whose fault report the output stage
has not yet taken is passed over (R109 step 3). DEDUCED: at every search until it is taken (log entry 9). -/
def State.eligible (s : State) (c : Chan) : Bool :=
  (s.monitor.chans.get c).enable && (s.outputs.chans.get c).outputState == .enabled
    && (s.outputs.chans.get c).condition == .normal && (s.outputs.chans.get c).rampState == .settled
    && !s.outputs.quiesced && decide (c ∉ s.transit.faultReports)

/-- R104: the 48 channels once each, from the scan position, wrapping from 47 to 0. -/
def scanOrder (pos : Chan) : List Chan := (List.finRange 48).map (pos + ·)

/-- R104: a search: the first eligible channel is converted, or the monitor waits. -/
def State.search (s : State) : State :=
  match (scanOrder s.monitor.scanPos).find? s.eligible with
  | some c =>
    { s with monitor := { s.monitor with
        state := .converting { chan := c, outputAtStart := (s.outputs.chans.get c).output, disturbed := false }
        scanPos := c + 1 } }
  | none => { s with monitor := { s.monitor with state := .waiting } }

end Sys2Proof.Machine
end

