-- ==== Sys2Proof/Machine/Operands.lean ====
section
/-! DEFINITION. How a request reaches its owner: the request in flight at a port, the decoder's common checks (R163),
the session-handle check (R58), and the handle checks of the claim requests (R3); and how the one response goes back
to the port (R155, R169, R174). -/

namespace Sys2Proof.Machine

/-- The answer to a request: its result and the payload that follows it (R169). -/
structure Reply where
  result : Result
  payload : List Byte
deriving DecidableEq, Repr

/-- A refusal that carries no payload (R169). -/
def refuse (r : Result) : Reply := ⟨r, []⟩

/-- OK with a payload (R170 to R173). -/
def okWith (payload : List Byte) : Reply := ⟨.ok, payload⟩

/-- R169: the response bytes: the request code echoed, the result code, the payload. -/
def Reply.bytes (reply : Reply) (code : Byte) : List Byte := code :: reply.result.code :: reply.payload

/-- R155, R174: the response produced for the request in flight at port `p`, on its way to the port. -/
def State.answer (s : State) (p : PortId) (code : Byte) (reply : Reply) : State :=
  s.modifyPort p fun q => { q with produced := some (reply.bytes code) }

/-- The request in flight at port `p` that the decoder has neither answered nor begun to read for (R173). -/
def State.requestAt (s : State) (p : PortId) : Option (List Byte) :=
  match (s.ports.get p).inFlight, (s.ports.get p).produced, (s.ports.get p).reading with
  | some r, none, none => some r.bytes
  | _, _, _ => none

/-- The request in flight at port `p`, not yet answered, whose byte 0 is `code`. -/
def State.requestOf (s : State) (p : PortId) (code : Byte) : Option (List Byte) :=
  (s.requestAt p).filter fun r => r.head? == some code

/-! ## The session-handle check (R58, R59) -/

/-- The outcome of the session-handle check. -/
inductive SessionCheck where
  | refused (why : Result) (t : SessionTable)
  | passed (slot : Slot) (info : SessionInfo) (t : SessionTable)
deriving DecidableEq, Repr

/-- R59: the keepalive of a session reloaded to its interval. -/
def SessionTable.reload (t : SessionTable) (slot : Slot) : SessionTable :=
  { t with recs := t.recs.modify slot fun r =>
      { r with state := match r.state with
          | .opened info => .opened { info with remaining := info.interval }
          | .closed => .closed
          | .lapsed => .lapsed } }

/-- R58 step 2: a LAPSED slot becomes CLOSED and leaves the lapse list. -/
def SessionTable.closeLapsed (t : SessionTable) (slot : Slot) : SessionTable :=
  { recs := t.recs.modify slot fun r => { r with state := .closed }, lapseList := t.lapseList.erase slot }

/-- R58: the session-handle check for a request that arrived on port `p`. -/
def SessionTable.check (t : SessionTable) (p : PortId) (h : WireHandle) : SessionCheck :=
  match t.named h with
  | none => .refused .noSession t
  | some slot =>
    match (t.recs.get slot).state with
    | .closed => .refused .noSession t
    | .lapsed => .refused .sessionLapsed (t.closeLapsed slot)
    | .opened info =>
      if info.port = p then .passed slot { info with remaining := info.interval } (t.reload slot)
      else .refused .wrongPort t

/-! ## The decoder (R163) -/

/-- Who makes a request: the slot and the session's fields, as the session table passed them. -/
structure Requester where
  slot : Slot
  info : SessionInfo
deriving DecidableEq, Repr

/-- What the common checks come to: no such request in flight, a refusal, or a request for its owner; each with the
state the checks leave, in which only the session table can differ. -/
inductive Admission (α : Type) where
  | absent
  | refused (t : State) (why : Result)
  | passed (t : State) (who : Requester) (params : α)

/-- R163 for a request with a session handle: code, length and field form (`decode`), session handle, role. The request
is absent where port `p` has no such request in flight (log entry 1). -/
def State.commonChecks {α : Type} (s : State) (p : PortId) (code : RequestCode) (decode : List Byte → Except Result α)
    (maintenanceOnly : Bool) : Admission α :=
  match s.requestOf p code.byte with
  | none => .absent
  | some r =>
    match decode r with
    | .error why => .refused s why
    | .ok params =>
      match s.sessions.check p (handleAt r 1) with
      | .refused why t => .refused { s with sessions := t } why
      | .passed slot info t =>
        if maintenanceOnly ∧ info.role = .control then .refused { s with sessions := t } .notPermitted
        else .passed { s with sessions := t } ⟨slot, info⟩ params

/-- R163 for a request with a session handle: the common checks, then the owner block, whose reply is the response. An
absent request changes nothing. -/
def State.serve {α : Type} (s : State) (p : PortId) (code : RequestCode) (decode : List Byte → Except Result α)
    (maintenanceOnly : Bool) (owner : State → Requester → α → State × Reply) : State :=
  match s.commonChecks p code decode maintenanceOnly with
  | .absent => s
  | .refused t why => t.answer p code.byte (refuse why)
  | .passed t who params =>
    let done := owner t who params
    done.1.answer p code.byte done.2

/-- R163 for OPEN, which carries no session handle: step 4 is skipped. -/
def State.serveOpen (s : State) (p : PortId) (owner : State → OpenParams → State × Reply) : State :=
  match s.requestOf p RequestCode.openSession.byte with
  | none => s
  | some r =>
    match decodeOpen r with
    | .error why => s.answer p RequestCode.openSession.byte (refuse why)
    | .ok params =>
      let done := owner s params
      done.1.answer p RequestCode.openSession.byte done.2

/-! ## The handle checks of the claim requests (R3) -/

/-- R3: the record a claim handle resolves to, LIVE or RETIRED. -/
def ClaimTable.resolve (t : ClaimTable) (h : WireHandle) : Option RecIdx :=
  if lt : h.low.toNat < 64 then
    (if (t.body? ⟨h.low.toNat, lt⟩).isSome ∧ (t.recs.get ⟨h.low.toNat, lt⟩).gen = h.gen then
      some ⟨h.low.toNat, lt⟩ else none)
  else none

/-- R3 for a request that needs a LIVE claim: NO_CLAIM, then RETIRED, then NOT_OWNER where `mustOwn`. -/
def ClaimTable.liveFor (t : ClaimTable) (h : WireHandle) (mustOwn : Bool) (who : SessionId) :
    Except Result (RecIdx × ClaimBody) :=
  match t.resolve h with
  | none => .error .noClaim
  | some i =>
    match t.live? i with
    | none => .error .retired
    | some b => if mustOwn ∧ b.owner ≠ who then .error .notOwner else .ok (i, b)

/-- R3 for a request that accepts a RETIRED claim and is reserved to the owner: NO_CLAIM, then NOT_OWNER. -/
def ClaimTable.ownedFor (t : ClaimTable) (h : WireHandle) (who : SessionId) : Except Result (RecIdx × ClaimBody) :=
  match t.resolve h with
  | none => .error .noClaim
  | some i =>
    match t.body? i with
    | none => .error .noClaim
    | some b => if b.owner ≠ who then .error .notOwner else .ok (i, b)

/-- The session handle of the requester. -/
def State.requesterId (s : State) (who : Requester) : SessionId := s.sessions.idOf who.slot

/-- The ceiling the active profile gives a port (R52). -/
def Profile.ceiling (prof : Profile) : PortId → Nat
  | .port0 => prof.ceiling0
  | .port1 => prof.ceiling1

/-- R12, R17: the value lies within the channel's limits in the active profile. -/
def Profile.withinLimits (prof : Profile) (q : Pair) : Bool :=
  decide ((prof.chans.get q.chan).low ≤ q.value ∧ q.value ≤ (prof.chans.get q.chan).high)

/-- R169: a refusal that names a channel. -/
def refuseAt (why : Result) (c : Chan) : Reply := ⟨why, be8 c.val⟩

end Sys2Proof.Machine
end

