-- ==== Sys2Proof/Machine/Attention.lean ====
section
/-! DEFINITION. The attention unit's request FETCH (R71, R72), and the claim table's taking of a channel fault report
(R26). -/

namespace Sys2Proof.Machine

/-! ## FETCH (R71, R72) -/

/-- R171: claim state, then standing or retire reason, as the record stands at the fetch. An entry names a LIVE or
RETIRED record (R65); for a FREE one, which no run reaches, the model shows LIVE with no channel (log entry 18). -/
def claimStateBytes (t : ClaimTable) (i : RecIdx) : List Byte :=
  match (t.recs.get i).state with
  | .live b => be8 1 ++ be8 (t.standing i b.chans).code
  | .retired _ why => be8 2 ++ be8 why.code
  | .free => be8 1 ++ be8 (t.standing i []).code

/-- R71, R171: the contents of a claim entry. -/
def claimEntryBytes (t : ClaimTable) (h : ClaimHandle) (reasons : ReasonSet) : List Byte :=
  h.bytes ++ tagBytes ((t.body? h.index).bind ClaimBody.tag) ++ be8 reasons.toNat ++ claimStateBytes t h.index

/-- R72, R171: the device condition as it stands when the fetch is taken. -/
def deviceEntryBytes (s : State) : DeviceKind → List Byte
  | .timebase => be8 s.supervisor.state.code ++ flagByte s.supervisor.refPresent
  | .quiesce => flagByte s.outputs.quiesced
  | .profile =>
    be32 s.store.active.generation.toNat ++ flagByte s.store.defaulted ++ be8 s.store.lastOutcome.code

/-- R171: the entry kind, the count still pending, and the entry. -/
def fetchPayload (s : State) (pending : Nat) : Entry → List Byte
  | .claim h reasons => be8 0 ++ be8 pending ++ claimEntryBytes s.claims h reasons
  | .device k => be8 k.code ++ be8 pending ++ deviceEntryBytes s k

/-- R24, R72: the fetch of a claim entry frees its record if it is RETIRED. -/
def ClaimTable.freeFetched (t : ClaimTable) : Entry → ClaimTable
  | .claim h _ =>
    match (t.recs.get h.index).state with
    | .retired _ _ => t.free h.index
    | .live _ => t
    | .free => t
  | .device _ => t

/-- R71, R72: FETCH at the attention unit. -/
def ownFetch (s : State) (who : Requester) (_ : Unit) : State × Reply :=
  match s.attention.get who.slot with
  | [] => (s, refuse .empty)
  | e :: rest =>
    ({ s with attention := s.attention.set who.slot rest, claims := s.claims.freeFetched e },
     okWith (fetchPayload s rest.length e))

def execFetch (p : PortId) (s : State) : Host.Outcome State Fault Refusal :=
  .next (s.serve p .fetch decodeNone false ownFetch)

/-! ## Fault reports at the claim table (R26) -/

/-- R26: the claim table takes the oldest report that channel `c` has become FAULTED, if one is on its way: FAULT for
every claim on the stack, top to bottom. -/
def State.takeFaultNotice (s : State) (c : Chan) : State :=
  if c ∈ s.transit.faultNotices then
    { s with transit := { s.transit with faultNotices := s.transit.faultNotices.erase c } }.notices
      (s.claims.holders.get c) .fault
  else s

def execFaultNotice (c : Chan) (s : State) : Host.Outcome State Fault Refusal := .next (s.takeFaultNotice c)

end Sys2Proof.Machine
end

