-- ==== Sys2Proof/Machine/Claims.lean ====
section
/-! DEFINITION. The claim table's requests: CLAIM, SET, SET_IF, RENEW, RELEASE, TRANSFER, REVOKE (R11 to R22, R36 to
R38). -/

namespace Sys2Proof.Machine

/-! ## CLAIM (R11 to R15) -/

/-- R13: the FREE record of lowest index. -/
def ClaimTable.lowestFree (t : ClaimTable) : Option RecIdx := (List.finRange 64).find? t.isFree

/-- R11: the checks on the device and the requesting session, first failure first. -/
def claimDeviceRefusal (s : State) (who : Requester) (q : ClaimParams) : Option Result :=
  if s.supervisor.state = .starting ∨ s.supervisor.state = .lapsed then some .timebase
  else if s.outputs.quiesced then some .quiesced
  else if s.store.commit.isSome then some .committing
  else if s.store.active.ceiling who.info.port < q.priority then some .priorityCeiling
  else if s.claims.ownedCount (s.requesterId who) ≥ Config.maxOwned then some .sessionFull
  else if s.claims.lowestFree.isNone then some .poolEmpty
  else none

/-- R12: the checks on one pair, first failure first. -/
def claimPairRefusal (s : State) (q : ClaimParams) (pr : Pair) : Option Result :=
  if (s.outputs.chans.get pr.chan).condition = .faulted then some .channelFaulted
  else if ¬ s.store.active.withinLimits pr then some .outOfLimits
  else if (s.claims.holders.get pr.chan).any (fun j => s.claims.priority j == q.priority) then some .priorityTaken
  else if (s.claims.holders.get pr.chan).length ≥ Config.stackDepth then some .stackFull
  else if q.disposition = .immediate ∧ (s.claims.top pr.chan).any (fun j => decide (q.priority < s.claims.priority j))
    then some .notTop
  else none

/-- R12: the first failing check on the first failing pair, with the channel of that pair. -/
def claimPairsRefusal (s : State) (q : ClaimParams) : Option Reply :=
  q.pairs.findSome? fun pr => (claimPairRefusal s q pr).map fun why => refuseAt why pr.chan

/-- R13: the fields of a newly granted record. -/
def grantedBody (owner : SessionId) (q : ClaimParams) : ClaimBody :=
  { owner := owner, priority := q.priority, pairs := q.pairs, leaseLength := q.lease, remaining := q.lease,
    epoch := 0#8, tag := q.tag }

/-- R13: record `i` granted and inserted on every listed stack; its generation is incremented. -/
def ClaimTable.grant (t : ClaimTable) (i : RecIdx) (b : ClaimBody) : ClaimTable :=
  { t with recs := t.recs.modify i fun r => { gen := r.gen + 1, state := .live b } }.insert i b

/-- R13, R15: the grant with its reports and PREEMPTED notices, in the order of the channel list. -/
def State.grant (s : State) (i : RecIdx) (b : ClaimBody) : State :=
  let now := s.claims.grant i b
  let changed := now.changedTops s.claims b.chans
  { s with
    claims := now
    transit := s.transit.sendAll (changed.map fun c => (c, now.topReport c))
    attention := (changed.filterMap s.claims.top).foldl (Attention.notice s.claims .preempted) s.attention }

/-- R170: the OK payload of CLAIM. -/
def claimPayload (t : ClaimTable) (i : RecIdx) (b : ClaimBody) : List Byte :=
  (t.handle i).bytes ++ be8 b.epoch.toNat ++ be8 (t.standing i b.chans).code

/-- R11 to R15: CLAIM at the claim table. -/
def ownClaim (s : State) (who : Requester) (q : ClaimParams) : State × Reply :=
  match claimDeviceRefusal s who q with
  | some why => (s, refuse why)
  | none =>
    match claimPairsRefusal s q with
    | some reply => (s, reply)
    | none =>
      match s.claims.lowestFree with
      | none => (s, refuse .poolEmpty)
      | some i =>
        let b := grantedBody (s.requesterId who) q
        (s.grant i b, okWith (claimPayload (s.claims.grant i b) i b))

/-! ## SET and SET_IF (R17, R18) -/

/-- R17: the checks on one pair of a SET. -/
def setPairRefusal (s : State) (b : ClaimBody) (pr : Pair) : Option Reply :=
  if pr.chan ∉ b.chans then some (refuseAt .notMember pr.chan)
  else if ¬ s.store.active.withinLimits pr then some (refuseAt .outOfLimits pr.chan)
  else none

/-- R17: the value list with the named channels' values replaced, the order kept. -/
def storeValues (news : List Pair) (pairs : List Pair) : List Pair :=
  pairs.map fun q => (news.find? fun n => n.chan == q.chan).getD q

/-- R17: new values stored in LIVE record `i`, and a value report for each named channel it tops. -/
def State.storeAndReport (s : State) (i : RecIdx) (b : ClaimBody) (news : List Pair) : State :=
  { s with
    claims := s.claims.setState i (.live { b with pairs := storeValues news b.pairs })
    transit := s.transit.sendAll
      ((news.filter fun n => s.claims.top n.chan == some i).map fun n => (n.chan, .newValue n.value)) }

/-- R17: SET at the claim table. -/
def ownSet (s : State) (who : Requester) (q : SetParams) : State × Reply :=
  match s.claims.liveFor q.handle true (s.requesterId who) with
  | .error why => (s, refuse why)
  | .ok (i, b) =>
    match q.pairs.findSome? (setPairRefusal s b) with
    | some reply => (s, reply)
    | none => (s.storeAndReport i b q.pairs, okWith [])

/-- R18: SET_IF at the claim table. -/
def ownSetIf (s : State) (who : Requester) (q : SetIfParams) : State × Reply :=
  match s.claims.liveFor q.handle true (s.requesterId who) with
  | .error why => (s, refuse why)
  | .ok (i, b) =>
    match setPairRefusal s b ⟨q.chan, q.value⟩ with
    | some reply => (s, reply)
    | none =>
      if (b.valueOn q.chan).getD 0 = q.expected then (s.storeAndReport i b [⟨q.chan, q.value⟩], okWith [])
      else (s, ⟨.mismatch, be16 ((b.valueOn q.chan).getD 0)⟩)

/-! ## RENEW (R36, R37) -/

/-- R169: STALE_EPOCH carries the record's present epoch. -/
def staleEpoch (b : ClaimBody) : Reply := ⟨.staleEpoch, be8 b.epoch.toNat⟩

/-- R37: the record renewed: the lease length replaced where one is given, remaining reloaded, the epoch advanced. -/
def ClaimBody.renewed (b : ClaimBody) (newLength : Option Nat) : ClaimBody :=
  { b with leaseLength := newLength.getD b.leaseLength, remaining := newLength.getD b.leaseLength, epoch := b.epoch + 1 }

/-- R170: the OK payload of RENEW. -/
def renewPayload (b : ClaimBody) : List Byte := be8 b.epoch.toNat ++ be16 b.leaseLength ++ be16 b.remaining

/-- R36, R37: RENEW at the claim table. -/
def ownRenew (s : State) (who : Requester) (q : RenewParams) : State × Reply :=
  match s.claims.liveFor q.handle true (s.requesterId who) with
  | .error why => (s, refuse why)
  | .ok (i, b) =>
    if q.epoch ≠ b.epoch then (s, staleEpoch b)
    else ({ s with claims := s.claims.setState i (.live (b.renewed q.newLength)) },
          okWith (renewPayload (b.renewed q.newLength)))

/-! ## RELEASE (R19, R74) -/

/-- R19, R74: record `i` of session `slot` freed and its entry removed; then the changed tops are handed on, in the
record's channel-list order. -/
def State.releaseRecord (s : State) (i : RecIdx) (b : ClaimBody) : State :=
  { s with claims := s.claims.free i
           attention := s.attention.modify b.owner.slot (removeEntry i) }.handTops s.claims b.chans

/-- R19: RELEASE at the claim table. -/
def ownRelease (s : State) (who : Requester) (h : WireHandle) : State × Reply :=
  match s.claims.ownedFor h (s.requesterId who) with
  | .error why => (s, refuse why)
  | .ok (i, b) => (s.releaseRecord i b, okWith [])

/-! ## TRANSFER (R20, R21, R75) -/

/-- R20 step 3: the OPEN session a wire handle names. -/
def SessionTable.openNamed (t : SessionTable) (h : WireHandle) : Option (Slot × SessionInfo) :=
  match t.named h with
  | none => none
  | some slot =>
    match t.info? slot with
    | some info => some (slot, info)
    | none => none

/-- R21, R75: the owner becomes the session in `slot`; the old owner's entry is removed and a claim entry with its
reasons and ADOPTED is raised at the tail of the new owner's list. -/
def State.transferRecord (s : State) (i : RecIdx) (b : ClaimBody) (slot : Slot) : State :=
  { s with
    claims := s.claims.setState i (.live { b with owner := s.sessions.idOf slot })
    attention := (s.attention.modify b.owner.slot (removeEntry i)).modify slot
      (addReasons (s.claims.handle i) (reasonsFor i (s.attention.get b.owner.slot) ||| Reason.adopted.mask)) }

/-- R20, R21: TRANSFER at the claim table. -/
def ownTransfer (s : State) (who : Requester) (q : TransferParams) : State × Reply :=
  match s.claims.liveFor q.handle true (s.requesterId who) with
  | .error why => (s, refuse why)
  | .ok (i, b) =>
    if q.epoch ≠ b.epoch then (s, staleEpoch b)
    else
      match s.sessions.openNamed q.target with
      | none => (s, refuse .noSession)
      | some (slot, info) =>
        if slot = who.slot then (s, okWith [])
        else if s.claims.ownedCount (s.sessions.idOf slot) ≥ Config.maxOwned then (s, refuse .targetFull)
        else if s.store.active.ceiling info.port < b.priority then (s, refuse .priorityCeiling)
        else (s.transferRecord i b slot, okWith [])

/-! ## REVOKE (R22) -/

/-- R22: REVOKE at the claim table. -/
def ownRevoke (s : State) (who : Requester) (h : WireHandle) : State × Reply :=
  match s.claims.liveFor h false (s.requesterId who) with
  | .error why => (s, refuse why)
  | .ok (i, _) => (s.retireOne i .revoked, okWith [])

/-! ## The meanings -/

def execClaim (p : PortId) (s : State) : Host.Outcome State Fault Refusal :=
  .next (s.serve p .claim decodeClaim false ownClaim)

def execSet (p : PortId) (s : State) : Host.Outcome State Fault Refusal :=
  .next (s.serve p .set decodeSet false ownSet)

def execSetIf (p : PortId) (s : State) : Host.Outcome State Fault Refusal :=
  .next (s.serve p .setIf decodeSetIf false ownSetIf)

def execRenew (p : PortId) (s : State) : Host.Outcome State Fault Refusal :=
  .next (s.serve p .renew decodeRenew false ownRenew)

def execRelease (p : PortId) (s : State) : Host.Outcome State Fault Refusal :=
  .next (s.serve p .release decodeHandle false ownRelease)

def execTransfer (p : PortId) (s : State) : Host.Outcome State Fault Refusal :=
  .next (s.serve p .transfer decodeTransfer false ownTransfer)

/-- R22, R167: REVOKE is reserved to the MAINTENANCE session. -/
def execRevoke (p : PortId) (s : State) : Host.Outcome State Fault Refusal :=
  .next (s.serve p .revoke decodeHandle true ownRevoke)

end Sys2Proof.Machine
end

