-- ==== Sys2Proof/Machine/Profile.lean ====
section
/-! DEFINITION. The profile store: the fields of a profile and their ranges (R132), the two nonvolatile copies (R133,
R135, R142, R146), the PROFILE requests (R138 to R142), the completion of a commit (R143, R145) and the delivery of an
activated profile (R98, R111, R120, R144). -/

namespace Sys2Proof.Machine

/-! ## Fields (R132) -/

/-- R132: the fields of a profile, global ones first. -/
inductive ProfileField where
  | prescaler | holdoverDivider | holdoverPeriod | ceiling0 | ceiling1 | generation
  | rest | low | high | rate | enable | tolerance | missLimit
deriving DecidableEq, Repr

/-- Every field, in the order of R132. -/
def ProfileField.all : List ProfileField :=
  [.prescaler, .holdoverDivider, .holdoverPeriod, .ceiling0, .ceiling1, .generation,
   .rest, .low, .high, .rate, .enable, .tolerance, .missLimit]

/-- R132: the field id. -/
def ProfileField.id : ProfileField → Nat
  | .prescaler => 0x01 | .holdoverDivider => 0x02 | .holdoverPeriod => 0x03 | .ceiling0 => 0x04
  | .ceiling1 => 0x05 | .generation => 0x06
  | .rest => 0x10 | .low => 0x11 | .high => 0x12 | .rate => 0x13 | .enable => 0x14 | .tolerance => 0x15
  | .missLimit => 0x16

/-- R138, R139: the field an id names, if it is in the table. -/
def ProfileField.ofId (n : Nat) : Option ProfileField := ProfileField.all.find? fun f => f.id == n

/-- R132: the least and the greatest value of a field. -/
def ProfileField.range : ProfileField → Nat × Nat
  | .prescaler => (1, 4096) | .holdoverDivider => (1, 65535) | .holdoverPeriod => (1, 65535)
  | .ceiling0 => (0, 15) | .ceiling1 => (0, 15) | .generation => (0, 4294967295)
  | .rest => (0, 1023) | .low => (0, 1023) | .high => (0, 1023) | .rate => (0, 1023)
  | .enable => (0, 1) | .tolerance => (0, 255) | .missLimit => (1, 7)

/-- R132: the value lies within the field's range. -/
def ProfileField.admits (f : ProfileField) (v : Nat) : Bool := decide (f.range.1 ≤ v ∧ v ≤ f.range.2)

/-- The value of a field; the channel is read for a per-channel field only (R138). -/
def Profile.field (prof : Profile) (f : ProfileField) (c : Chan) : Nat :=
  match f with
  | .prescaler => prof.prescaler
  | .holdoverDivider => prof.holdoverDivider
  | .holdoverPeriod => prof.holdoverPeriod
  | .ceiling0 => prof.ceiling0
  | .ceiling1 => prof.ceiling1
  | .generation => prof.generation.toNat
  | .rest => (prof.chans.get c).rest
  | .low => (prof.chans.get c).low
  | .high => (prof.chans.get c).high
  | .rate => (prof.chans.get c).rate
  | .enable => (prof.chans.get c).enable
  | .tolerance => (prof.chans.get c).tolerance
  | .missLimit => (prof.chans.get c).missLimit

/-- One channel of a profile changed. -/
def Profile.modifyChan (prof : Profile) (c : Chan) (f : ChannelProfile → ChannelProfile) : Profile :=
  { prof with chans := prof.chans.modify c f }

/-- R139: the profile with one field, the global one or the named channel's, at a new value. -/
def Profile.setField (prof : Profile) (f : ProfileField) (c : Chan) (v : Nat) : Profile :=
  match f with
  | .prescaler => { prof with prescaler := v }
  | .holdoverDivider => { prof with holdoverDivider := v }
  | .holdoverPeriod => { prof with holdoverPeriod := v }
  | .ceiling0 => { prof with ceiling0 := v }
  | .ceiling1 => { prof with ceiling1 := v }
  | .generation => { prof with generation := BitVec.ofNat 32 v }
  | .rest => prof.modifyChan c fun k => { k with rest := v }
  | .low => prof.modifyChan c fun k => { k with low := v }
  | .high => prof.modifyChan c fun k => { k with high := v }
  | .rate => prof.modifyChan c fun k => { k with rate := v }
  | .enable => prof.modifyChan c fun k => { k with enable := v }
  | .tolerance => prof.modifyChan c fun k => { k with tolerance := v }
  | .missLimit => prof.modifyChan c fun k => { k with missLimit := v }

/-- R132, R133 condition 2: every field lies within its range. -/
def Profile.inRange (prof : Profile) : Bool :=
  ProfileField.all.all fun f => allChans.all fun c => f.admits (prof.field f c)

/-- R132: low limit ≤ rest value ≤ high limit. -/
def ChannelProfile.consistent (k : ChannelProfile) : Bool := decide (k.low ≤ k.rest ∧ k.rest ≤ k.high)

/-- R141 check 3: the lowest channel whose limits and rest value are out of order. -/
def Profile.firstInconsistent (prof : Profile) : Option Chan :=
  allChans.find? fun c => !(prof.chans.get c).consistent

/-- R132: every channel is consistent. -/
def Profile.consistent (prof : Profile) : Bool := allChans.all fun c => (prof.chans.get c).consistent

/-! ## The copies (R133) -/

/-- R133: the 11 content bytes of one channel. -/
def ChannelProfile.bytes (k : ChannelProfile) : List Byte :=
  be16 k.rest ++ be16 k.low ++ be16 k.high ++ be16 k.rate ++ be8 k.enable ++ be8 k.tolerance ++ be8 k.missLimit

/-- R133: the 12 global content bytes. -/
def Profile.globalBytes (prof : Profile) : List Byte :=
  be16 prof.prescaler ++ be16 prof.holdoverDivider ++ be16 prof.holdoverPeriod ++ be8 prof.ceiling0
    ++ be8 prof.ceiling1 ++ be32 prof.generation.toNat

/-- R133: the 540 content bytes. -/
def Profile.content (prof : Profile) : List Byte := prof.globalBytes ++ prof.chans.cells.flatMap ChannelProfile.bytes

/-- R133: a whole copy, content and CRC-16. -/
def copyImage (prof : Profile) : List Byte := prof.content ++ be16 (crc16 prof.content).toNat

/-- R133: the fields of the channel whose content begins at byte `i`. -/
def channelProfileAt (r : List Byte) (i : Nat) : ChannelProfile :=
  { rest := wordAt r i, low := wordAt r (i + 2), high := wordAt r (i + 4), rate := wordAt r (i + 6),
    enable := byteAt r (i + 8), tolerance := byteAt r (i + 9), missLimit := byteAt r (i + 10) }

/-- R133: the profile a copy holds. -/
def profileOf (r : List Byte) : Profile :=
  { prescaler := wordAt r 0, holdoverDivider := wordAt r 2, holdoverPeriod := wordAt r 4, ceiling0 := byteAt r 6,
    ceiling1 := byteAt r 7, generation := BitVec.ofNat 32 (longAt r 8),
    chans := .ofFn fun c => channelProfileAt r (12 + 11 * c.val) }

/-- R133: a copy is valid: its 542 bytes hold a profile within its ranges and consistent, under a matching CRC. -/
def copyValid (r : List Byte) : Bool :=
  decide (r.length = Config.copyBytes) && (profileOf r).inRange && (profileOf r).consistent
    && decide ((crc16 (r.take Config.contentBytes)).toNat = wordAt r Config.contentBytes)

/-- The bytes of a copy as the memory took them, where it did not take them all as written. -/
def applyFlaws (flaws : List Flaw) (r : List Byte) : List Byte := flaws.foldl (fun l f => l.set f.index f.reads) r

/-- R142: byte numbers of a copy in the order they are written: bytes 2 to 539, the CRC, then bytes 0 and 1. DESIGN
CHOICE within a part, where R142 gives no order: ascending (log entry 13). -/
def writeOrder : List Nat := List.range' 2 540 ++ [0, 1]

/-- R142 part 1: every byte erased. -/
def erasedCopy (older : List Byte) : List Byte := older.map fun _ => Config.erasedByte

/-- R142 parts 2 to 4: the first `n` bytes of the write of `image` taken as written. -/
def partWritten (older image : List Byte) (n : Nat) : List Byte :=
  (writeOrder.take n).foldl (fun l i => l.set i (image.getD i Config.erasedByte)) (erasedCopy older)

/-- R146: the contents `r` that a write cut short may leave: invalid ones, or `whole`. In place of others, which the
rule does not allow, `plain` (log entry 13). -/
def leftBy (whole plain r : List Byte) : List Byte := if copyValid r && r != whole then plain else r

/-- R142, R146: what the write of `image` over `older` had reached when a device reset cut it short. Before the end of
the erase the target is invalid or holds its older contents; before the end of part 4 it is invalid or holds the image.
Of the write, only a byte already written reads otherwise than written. -/
def tornCopy (older image : List Byte) (flaws : List Flaw) : WriteReached → List Byte
  | .erasing kept =>
    leftBy older (erasedCopy older)
      (applyFlaws flaws (List.zipWith (fun keeps b => if keeps then b else Config.erasedByte) kept older))
  | .writing n =>
    let r := applyFlaws (flaws.filter fun f => decide (f.index ∈ writeOrder.take n)) (partWritten older image n)
    if n < Config.copyBytes then leftBy image (partWritten older image n) r else r

/-- R133: the bytes of a copy. -/
def ProfileStore.copy (st : ProfileStore) : CopyId → List Byte
  | .copyA => st.copyA
  | .copyB => st.copyB

/-- R142 step 2: the copy a commit writes: the one not active, or copy A when none is. -/
def ProfileStore.targetCopy (st : ProfileStore) : CopyId :=
  match st.activeCopy with
  | some .copyA => .copyB
  | some .copyB => .copyA
  | none => .copyA

/-! ## The start-up load (R135) -/

/-- R135: copy B's generation is the higher, modulo 2^32. -/
def generationAbove (b a : BitVec 32) : Bool := decide (1 ≤ (b - a).toNat ∧ (b - a).toNat ≤ 2147483647)

/-- R135: what the start-up load chooses. DESIGN CHOICE where a failed commit left its target a valid copy of other content
and a higher generation (R145 step 2): R145 has the load take the previous profile, the comparison of R135 takes the
copy of higher generation, and the model follows R135 (log entry 28). -/
def chooseProfile (copyA copyB : List Byte) : LoadChoice :=
  match copyValid copyA, copyValid copyB with
  | true, false => ⟨profileOf copyA, some .copyA, false⟩
  | false, true => ⟨profileOf copyB, some .copyB, false⟩
  | true, true =>
    if generationAbove (profileOf copyB).generation (profileOf copyA).generation then
      ⟨profileOf copyB, some .copyB, false⟩
    else ⟨profileOf copyA, some .copyA, false⟩
  | false, false => ⟨defaultProfile, none, true⟩

/-! ## The PROFILE requests (R138 to R142) -/

/-- The store's profile of a source. -/
def ProfileStore.profile (st : ProfileStore) : Source → Profile
  | .active => st.active
  | .staging => st.staging

/-- R138: PROFILE_READ at the profile store. -/
def ownProfileRead (s : State) (_ : Requester) (q : ProfileReadParams) : State × Reply :=
  match ProfileField.ofId q.fieldId with
  | none => (s, refuse .badValue)
  | some f =>
    (s, okWith (be8 (Source.code q.source) ++ be8 q.fieldId ++ be8 q.chan.val
      ++ be32 ((s.store.profile q.source).field f q.chan)))

/-- R139: one field of the staging profile at a new value. -/
def State.stage (s : State) (f : ProfileField) (c : Chan) (v : Nat) : State :=
  { s with store := { s.store with staging := s.store.staging.setField f c v } }

/-- R139: PROFILE_STAGE at the profile store. -/
def ownProfileStage (s : State) (_ : Requester) (q : ProfileStageParams) : State × Reply :=
  match ProfileField.ofId q.fieldId with
  | none => (s, refuse .badValue)
  | some f =>
    if f = .generation then (s, refuse .badValue)
    else if f.admits q.value then (s.stage f q.chan q.value, okWith [])
    else (s, refuse .badValue)

/-- R140: the staging profile becomes a copy of the active profile. -/
def State.discardStaging (s : State) : State := { s with store := { s.store with staging := s.store.active } }

/-- R140: PROFILE_DISCARD at the profile store. -/
def ownProfileDiscard (s : State) (_ : Requester) (_ : Unit) : State × Reply :=
  if s.store.commit.isSome then (s, refuse .committing) else (s.discardStaging, okWith [])

/-- R142 step 3: the staging profile with the next generation. -/
def ProfileStore.nextImage (st : ProfileStore) : Profile := { st.staging with generation := st.active.generation + 1 }

/-- R142: the commit accepted. What the write has reached is told when it ends: by COMMIT_COMPLETION, or by a
DEVICE_RESET that cuts it short (log entries 13 and 14). -/
def State.acceptCommit (s : State) : State :=
  { s with store := { s.store with commit := some ⟨s.store.targetCopy, s.store.nextImage⟩ } }

/-- R141, R142: PROFILE_COMMIT at the profile store. -/
def ownProfileCommit (s : State) (_ : Requester) (_ : Unit) : State × Reply :=
  if s.store.commit.isSome then (s, refuse .committing)
  else if (List.finRange 64).any fun i => !s.claims.isFree i then (s, refuse .claimsPresent)
  else
    match s.store.staging.firstInconsistent with
    | some c => (s, refuseAt .inconsistent c)
    | none => (s.acceptCommit, okWith [])

/-! ## Delivery of an activated profile (R98, R111, R120, R144) -/

/-- A channel's settings taken from a profile (R82, R98). -/
def Channel.settings (ch : Channel) (k : ChannelProfile) : Channel :=
  { ch with rest := k.rest, low := k.low, high := k.high, rate := k.rate }

/-- R98: an activation at one ENABLED record. An unquiesced NORMAL record takes the target R87 computes: the new rest
value, its top value being absent by R98. DEDUCED where a report is still on its way and a top value stands: the top
value (log entry 29). -/
def Channel.activate (ch : Channel) (k : ChannelProfile) (quiesced : Bool) : Channel :=
  if quiesced ∨ ch.condition = .faulted then (ch.settings k).stepToRest
  else (ch.settings k).moveTo (ch.topValue.getD k.rest)

/-- R98: an activation at the output stage. -/
def State.activateOutputs (s : State) (prof : Profile) : State :=
  s.changeChannels fun c => Channel.whenEnabled (Channel.activate · (prof.chans.get c) s.outputs.quiesced)

/-- The monitor's settings taken from a profile, the miss counts at 0 (R105, R111). -/
def monitorSettings (prof : Profile) : Table 48 MonitorChannel :=
  prof.chans.map fun k =>
    { missCount := 0, enable := k.enable == 1, tolerance := k.tolerance, missLimit := k.missLimit }

/-- R111 step 4: the lowest channel whose readback is enabled, or C0. -/
def lowestEnabled (prof : Profile) : Chan := (allChans.find? fun c => (prof.chans.get c).enable == 1).getD 0

/-- R111: an activation at the readback monitor: the conversion discarded, settings, counts, scan position, search. -/
def State.activateMonitor (s : State) (prof : Profile) : State :=
  { s with monitor := { state := .waiting, scanPos := lowestEnabled prof, chans := monitorSettings prof } }.search

/-- R120: the supervisor's three settings taken from a profile. -/
def Supervisor.settings (u : Supervisor) (prof : Profile) : Supervisor :=
  { u with prescaler := prof.prescaler, holdoverDivider := prof.holdoverDivider, holdoverPeriod := prof.holdoverPeriod }

/-- R120: an activation at the supervisor: settings, holdover remaining lowered to the new period, divider restarted. -/
def State.activateSupervisor (s : State) (prof : Profile) : State :=
  { s with supervisor := { s.supervisor.settings prof with
      holdoverRemaining := s.supervisor.holdoverRemaining.map (min prof.holdoverPeriod)
      dividerCount := 0 } }

/-- R144: the delivery of an activated profile, the output stage and the readback monitor in the order given. -/
def State.deliver (s : State) (prof : Profile) : ActivationOrder → State
  | .outputFirst => ((s.activateOutputs prof).activateMonitor prof).activateSupervisor prof
  | .monitorFirst => ((s.activateMonitor prof).activateOutputs prof).activateSupervisor prof

/-! ## The completion of a commit (R143, R145) -/

/-- The bytes of one copy replaced. -/
def ProfileStore.withCopy (st : ProfileStore) (copyId : CopyId) (r : List Byte) : ProfileStore :=
  match copyId with
  | .copyA => { st with copyA := r }
  | .copyB => { st with copyB := r }

/-- R143: the commit target as read back is valid and its content equals the commit image. -/
def verified (cm : Commit) (written : List Byte) : Bool :=
  copyValid written && written.take Config.contentBytes == cm.image.content

/-- R143 steps 1 to 4. -/
def ProfileStore.committed (st : ProfileStore) (cm : Commit) : ProfileStore :=
  { st with active := cm.image, activeCopy := some cm.target, defaulted := false, lastOutcome := .done, commit := none,
            staging := cm.image }

/-- R145 steps 1 to 4. -/
def ProfileStore.commitFailed (st : ProfileStore) : ProfileStore :=
  { st with lastOutcome := .failed, commit := none, staging := st.active }

/-- R143 to R145: the completion of commit `cm`, whose target reads back as `written`. -/
def State.completeCommit (s : State) (cm : Commit) (written : List Byte) (order : ActivationOrder) : State :=
  if verified cm written then
    ({ s with store := (s.store.withCopy cm.target written).committed cm }.deliver cm.image order).deviceNotice .profile
  else { s with store := (s.store.withCopy cm.target written).commitFailed }.maintenanceNotice .profile

/-! ## The meanings -/

def execProfileRead (p : PortId) (s : State) : Host.Outcome State Fault Refusal :=
  .next (s.serve p .profileRead decodeProfileRead false ownProfileRead)

/-- R139, R167: PROFILE_STAGE is reserved to the MAINTENANCE session. -/
def execProfileStage (p : PortId) (s : State) : Host.Outcome State Fault Refusal :=
  .next (s.serve p .profileStage decodeProfileStage true ownProfileStage)

/-- R141, R167: PROFILE_COMMIT is reserved to the MAINTENANCE session. -/
def execProfileCommit (p : PortId) (s : State) : Host.Outcome State Fault Refusal :=
  .next (s.serve p .profileCommit decodeNone true ownProfileCommit)

/-- R140, R167: PROFILE_DISCARD is reserved to the MAINTENANCE session. -/
def execProfileDiscard (p : PortId) (s : State) : Host.Outcome State Fault Refusal :=
  .next (s.serve p .profileDiscard decodeNone true ownProfileDiscard)

/-- R143 to R145: COMMIT_COMPLETION. The target holds the commit image but for the bytes the memory did not take
(`flaws`, log entry 14). With no commit in flight there is no completion. -/
def execCommitCompletion (flaws : List Flaw) (order : ActivationOrder) (s : State) :
    Host.Outcome State Fault Refusal :=
  match s.store.commit with
  | some cm => .next (s.completeCommit cm (applyFlaws flaws (copyImage cm.image)) order)
  | none => .next s

end Sys2Proof.Machine
end

