-- ==== Sys2Proof/Machine/Device.lean ====
section
/-! DEFINITION. The events of the whole device: device reset (R148 and each block's own reset rule), its end (R135), and
the completion of the start-up load (R136, R82, R84, R105, R120, R121, R161). -/

namespace Sys2Proof.Machine

/-! ## Device reset -/

/-- R133, R134, R146: the store's copies as a device reset leaves them: kept, but for the target of a commit in flight,
which holds what its write had reached (log entry 13). -/
def ProfileStore.cutShort (st : ProfileStore) (reached : WriteReached) (flaws : List Flaw) : ProfileStore :=
  match st.commit with
  | some cm => st.withCopy cm.target (tornCopy (st.copy cm.target) (copyImage cm.image) flaws reached)
  | none => st

/-- DEVICE_RESET: every block returns to its reset values at once, whatever it held; RESETn stays held low until
RESET_END. The copies, the levels of QUIESCEn, CS0n and CS1n and the queue are not the device's to reset. -/
def execDeviceReset (reached : WriteReached) (flaws : List Flaw) (s : State) : Host.Outcome State Fault Refusal :=
  .next (State.atReset (s.store.cutShort reached flaws).copyA (s.store.cutShort reached flaws).copyB s.pending
    s.quiescenLow s.ports.port0.csLow s.ports.port1.csLow)

/-- R115, R135: RESETn is released: the supervisor's windows begin, and the start-up load reads and judges both copies.
A pin already high has no release. -/
def execResetEnd (s : State) : Host.Outcome State Fault Refusal :=
  if s.resetHeld then
    .next { s with resetHeld := false
                   store := { s.store with loadChoice := some (chooseProfile s.store.copyA s.store.copyB) } }
  else .next s

/-! ## The completion of the start-up load (R136) -/

/-- R136 steps 1 to 3. -/
def ProfileStore.loaded (st : ProfileStore) (choice : LoadChoice) : ProfileStore :=
  { st with active := choice.profile, activeCopy := choice.copy, defaulted := choice.defaulted,
            staging := choice.profile, loadInProgress := false, loadChoice := none }

/-- R82: one channel enabled at its rest value. -/
def Channel.enabledAt (ch : Channel) (k : ChannelProfile) : Channel :=
  { (ch.settings k).stepToRest with outputState := .enabled }

/-- R82, R84: every channel enabled at its rest value, and the level of QUIESCEn taken. -/
def State.enableOutputs (s : State) (prof : Profile) : State :=
  { s with outputs := { s.outputs with
      quiesced := s.quiescenLow
      chans := s.outputs.chans.mapIdx fun c ch => ch.enabledAt (prof.chans.get c) } }

/-- R105: the monitor takes its settings, leaves STOPPED and makes its first search. -/
def State.startMonitor (s : State) (prof : Profile) : State :=
  { s with monitor := { s.monitor with state := .waiting, chans := monitorSettings prof } }.search

/-- R120, R121: the supervisor takes its settings and begins producing, in LOCKED or in STARTING. -/
def Supervisor.started (u : Supervisor) (prof : Profile) : Supervisor :=
  if u.refPresent then
    { u.settings prof with state := .locked, source := .refclkEdges, dividerCount := 0, producing := true }
  else
    { u.settings prof with state := .starting, source := .internalPeriods, dividerCount := 0, producing := true,
                           holdoverRemaining := some prof.holdoverPeriod }

/-- R121, R130: the supervisor begins producing; a change to LOCKED posts TIMEBASE. -/
def State.startSupervisor (s : State) (prof : Profile) : State :=
  let t := { s with supervisor := s.supervisor.started prof }
  if s.supervisor.refPresent then t.deviceNotice .timebase else t

/-- R161: a port leaves STARTING and becomes READY, DROPPED kept. -/
def Port.startUp (q : Port) : Port := { q with state := .ready }

/-- R136 step 5. -/
def State.startPorts (s : State) : State :=
  { s with ports := { port0 := s.ports.port0.startUp, port1 := s.ports.port1.startUp } }

/-- R136: the completion of the start-up load, as one event. -/
def State.completeLoad (s : State) (choice : LoadChoice) : State :=
  (((({ s with store := s.store.loaded choice }).enableOutputs choice.profile).startMonitor choice.profile
    ).startSupervisor choice.profile).startPorts

/-- R136: START_UP_LOAD_COMPLETION. There is none before the load has begun, nor after it has ended. -/
def execStartUpLoadCompletion (s : State) : Host.Outcome State Fault Refusal :=
  match s.store.loadChoice with
  | some choice => .next (s.completeLoad choice)
  | none => .next s

end Sys2Proof.Machine
end

