-- ==== Sys2Proof/Machine/Link.lean ====
section
/-! DEFINITION. The frames of the link ports: the fall and the rise of chip select (R149, R150), SUBMIT (R152 to R154,
R160), COLLECT (R156, R157), PEEK (R158), CLEAR (R159), frames of unknown kind (R153); and RESPONSE_PRODUCED (R155,
R160). -/

namespace Sys2Proof.Machine

/-! ## What the port does with a frame -/

/-- R153, R154: a frame is dropped. -/
def Port.drop (q : Port) : Port := { q with dropped := true }

/-- R152, R160: the request bytes of an accepted SUBMIT become the request in flight, or the waiting request where an
abandoned request is still in flight. -/
def Port.accept (q : Port) (r : List Byte) : Port :=
  match q.inFlight with
  | none => { q with dropped := false, state := .working, inFlight := some ⟨r, false⟩ }
  | some _ => { q with dropped := false, state := .working, waiting := some r }

/-- R152, R153: a SUBMIT at the rise of chip select, judged by the port state at the fall. -/
def Port.takeSubmit (q : Port) (stateAtFall : PortState) (bytes : List Byte) : Port :=
  match stateAtFall, submitRequest bytes with
  | .ready, some r => q.accept r
  | .ready, none => q.drop
  | .starting, _ => q.drop
  | .working, _ => q.drop
  | .answering, _ => q.drop

/-- R156, R157: a COLLECT at the rise of chip select, after `n` whole bytes. -/
def Port.takeCollect (q : Port) (stateAtFall : PortState) (n : Nat) : Port :=
  match stateAtFall, q.buffer with
  | .answering, some r => if r.length + 3 ≤ n then { q with buffer := none, state := .ready } else q
  | .answering, none => q
  | .starting, _ => q
  | .ready, _ => q
  | .working, _ => q

/-- R159: what the port holds is given up: the request in flight abandoned, the waiting request and the buffer
discarded. DEDUCED where an event has changed what the port holds since the fall: a response then in the buffer is
discarded, and a waiting request then handed on is abandoned (log entry 12). -/
def Port.giveUp (q : Port) : Port :=
  { q with dropped := false, state := .ready, inFlight := q.inFlight.map fun f => { f with abandoned := true },
           waiting := none, buffer := none }

/-- R159: a CLEAR at the rise of chip select. -/
def Port.takeClear (q : Port) (stateAtFall : PortState) : Port :=
  match stateAtFall with
  | .starting => { q with dropped := false }
  | .ready => { q with dropped := false }
  | .working => q.giveUp
  | .answering => q.giveUp

/-- R149: the frame judged from its first byte, its count of bytes, its bytes and the port state at the fall; with no
whole byte there is no frame. -/
def Port.judge (q : Port) (stateAtFall : PortState) (bytes : List Byte) : Port :=
  match bytes with
  | [] => q
  | k :: _ =>
    if k = submitKind then q.takeSubmit stateAtFall bytes
    else if k = collectKind then q.takeCollect stateAtFall bytes.length
    else if k = peekKind then q
    else if k = clearKind then q.takeClear stateAtFall
    else q.drop

/-! ## What the port shifts out -/

/-- R156: the bytes of a held response as a COLLECT shifts it out, after the status byte. -/
def responseFrame (r : List Byte) : List Byte :=
  let counted := BitVec.ofNat 8 r.length :: r
  counted ++ [crc8 counted]

/-- R152, R156 to R158: what follows the status byte, before the 0x00 bytes that fill every transaction. -/
def Port.answerFrame (q : Port) (stateAtFall : PortState) (bytes : List Byte) : List Byte :=
  match stateAtFall, q.buffer with
  | .answering, some r => if bytes.head? = some collectKind then responseFrame r else []
  | .answering, none => []
  | .starting, _ => []
  | .ready, _ => []
  | .working, _ => []

/-- R149: the whole bytes shifted out during a transaction: the status byte, what the frame calls for, then 0x00. -/
def Port.shifted (q : Port) (tr : OpenTransaction) (bytes : List Byte) : List Byte :=
  ((tr.status :: q.answerFrame tr.stateAtFall bytes) ++ List.replicate bytes.length 0x00#8).take bytes.length

/-- R149: the byte the port shifts out after these whole bytes: the status byte first, what the frame calls for, then
0x00. -/
def Port.nextByte (q : Port) (tr : OpenTransaction) (bytes : List Byte) : Byte :=
  (tr.status :: q.answerFrame tr.stateAtFall bytes).getD bytes.length 0x00#8

/-- R149: the bits shifted out after the last whole byte, most significant first. -/
def Port.lastBits (q : Port) (tr : OpenTransaction) (bytes : List Byte) (bits : Fin 8) : List Bool :=
  (List.range bits.val).map (q.nextByte tr bytes).getMsbD

/-- The pin SDO0 or SDO1. -/
inductive SdoPin where
  /-- chip select is high, or RESETn is held low -/
  | undriven
  /-- driven at this level -/
  | driven (level : Bool)
  /-- driven with no transaction in progress, at a level the spec does not give (log entry 30) -/
  | unstated
deriving DecidableEq, Repr

/-- R148, R149: the pin SDO of port `p`, after these whole bytes and `bits` more bits of the present low period, counted
by the falling edges of SCK. Its first bit stands there from the fall of chip select. -/
def sdoPin (s : State) (p : PortId) (bytes : List Byte) (bits : Fin 8) : SdoPin :=
  if s.resetHeld ∨ (s.ports.get p).csLow = false then .undriven
  else
    match (s.ports.get p).transaction with
    | some tr => .driven (((s.ports.get p).nextByte tr bytes).getMsbD bits.val)
    | none => .unstated

/-! ## The fall and the rise of chip select -/

/-- R149, R150: chip select falls: the status byte is formed (log entry 26) and the port state that will judge the frame
is fixed. A pin already low has no fall; while RESETn is held low no transaction begins (log entry 11). -/
def State.csFall (s : State) (p : PortId) : State :=
  if (s.ports.get p).csLow then s
  else s.modifyPort p fun q =>
    { q with
      csLow := true
      transaction := if s.resetHeld then none else some { stateAtFall := q.state, status := statusByte s p } }

/-- R149: the port takes a whole transaction. -/
def Port.endTransaction (q : Port) (tr : OpenTransaction) (bytes : List Byte) (bits : Fin 8) : Port :=
  { q.judge tr.stateAtFall bytes with
    csLow := false, transaction := none
    shiftedOut := q.shifted tr bytes, shiftedBits := q.lastBits tr bytes bits }

/-- R149: chip select rises and the port takes the whole transaction, as one event; with none in progress the pin alone
changes. -/
def State.csRise (s : State) (p : PortId) (bytes : List Byte) (bits : Fin 8) : State :=
  match (s.ports.get p).transaction with
  | some tr => s.modifyPort p fun q => q.endTransaction tr bytes bits
  | none => s.modifyPort p fun q => { q with csLow := false }

/-- One frame command: the fall, the rise with its bytes, or both with no event between; `kind` is the frame-kind byte
of the command's row. -/
def State.transact (s : State) (p : PortId) (kind : List Byte) : Transaction → State
  | .fall => s.csFall p
  | .rise bytes bits => s.csRise p (kind ++ bytes) bits
  | .whole bytes bits => (s.csFall p).csRise p (kind ++ bytes) bits

/-! ## The production of a response (R155, R160) -/

/-- R155, R160: the port takes the response produced for its request in flight. -/
def Port.takeResponse (q : Port) (f : InFlight) (response : List Byte) : Port :=
  if f.abandoned then
    { q with inFlight := q.waiting.map fun r => ⟨r, false⟩, waiting := none, produced := none }
  else { q with inFlight := none, produced := none, buffer := some response, state := .answering }

/-! ## The meanings -/

def execSubmit (p : PortId) (x : Transaction) (s : State) : Host.Outcome State Fault Refusal :=
  .next (s.transact p [submitKind] x)

def execCollect (p : PortId) (x : Transaction) (s : State) : Host.Outcome State Fault Refusal :=
  .next (s.transact p [collectKind] x)

def execPeek (p : PortId) (x : Transaction) (s : State) : Host.Outcome State Fault Refusal :=
  .next (s.transact p [peekKind] x)

def execClear (p : PortId) (x : Transaction) (s : State) : Host.Outcome State Fault Refusal :=
  .next (s.transact p [clearKind] x)

/-- R153: the operand's bytes are the whole frame, its unknown kind byte first. -/
def execUnknownFrame (p : PortId) (x : Transaction) (s : State) : Host.Outcome State Fault Refusal :=
  .next (s.transact p [] x)

/-- R155, R160: RESPONSE_PRODUCED, when a response is on its way to the port. -/
def execResponseProduced (p : PortId) (s : State) : Host.Outcome State Fault Refusal :=
  match (s.ports.get p).inFlight, (s.ports.get p).produced with
  | some f, some response => .next (s.modifyPort p fun q => q.takeResponse f response)
  | some _, none => .next s
  | none, _ => .next s

end Sys2Proof.Machine
end

