-- ==== Sys2Proof/Machine/Outputs.lean ====
section
/-! DEFINITION. The output stage's events: reports from the claim table (R86), fault reports (R95), CLEAR_FAULT (R96,
R97), the level of QUIESCEn (R84, R92, R93). -/

namespace Sys2Proof.Machine

/-! ## Reports from the claim table (R9, R86) -/

/-- The top value a report gives (R86). -/
def Report.topValue : Report → Option Nat
  | .newTop _ v => some v
  | .emptyStack => none
  | .newValue v => some v

/-- R86: the top value set, then the target recomputed. -/
def Channel.takeReport (ch : Channel) (r : Report) (quiesced : Bool) : Channel :=
  ({ ch with topValue := r.topValue }).retarget quiesced

/-- R9, R86: the oldest report on its way to channel `c` taken by the output stage. -/
def State.takeReport (s : State) (c : Chan) (r : Report) : State :=
  { s with transit := { s.transit with reports := s.transit.reports.modify c List.tail } }.changeChannel c
    (Channel.whenEnabled fun ch => ch.takeReport r s.outputs.quiesced)

/-- R86: TOP_REPORT at channel `c`: the oldest report on its way is of a new top or an empty stack. -/
def execTopReport (c : Chan) (s : State) : Host.Outcome State Fault Refusal :=
  match (s.transit.reports.get c).head? with
  | some (.newTop h v) => .next (s.takeReport c (.newTop h v))
  | some .emptyStack => .next (s.takeReport c .emptyStack)
  | some (.newValue _) => .next s
  | none => .next s

/-- R86: VALUE_REPORT at channel `c`: the oldest report on its way is a value report. -/
def execValueReport (c : Chan) (s : State) : Host.Outcome State Fault Refusal :=
  match (s.transit.reports.get c).head? with
  | some (.newValue v) => .next (s.takeReport c (.newValue v))
  | some (.newTop _ _) => .next s
  | some .emptyStack => .next s
  | none => .next s

/-! ## Faults (R95) -/

/-- R95: a NORMAL record becomes FAULTED and its output steps to rest; a FAULTED one is unchanged. -/
def Channel.takeFault (ch : Channel) : Channel :=
  match ch.condition with
  | .normal => ({ ch with condition := .faulted }).stepToRest
  | .faulted => ch

/-- R95: the channel is ENABLED and NORMAL, so that a fault report faults it. -/
def Channel.canFault (ch : Channel) : Bool := ch.outputState == .enabled && ch.condition == .normal

/-- R95: the fault report on its way to channel `c` taken by the output stage, which reports a new fault to the claim
table. -/
def State.takeFaultReport (s : State) (c : Chan) : State :=
  { s with transit := { s.transit with
      faultReports := s.transit.faultReports.erase c
      faultNotices := if (s.outputs.chans.get c).canFault then s.transit.faultNotices ++ [c]
                      else s.transit.faultNotices } }.changeChannel c (Channel.whenEnabled Channel.takeFault)

/-- R95: CHANNEL_FAULT at channel `c`, when a fault report is on its way there. -/
def execChannelFault (c : Chan) (s : State) : Host.Outcome State Fault Refusal :=
  if c ∈ s.transit.faultReports then .next (s.takeFaultReport c) else .next s

/-! ## CLEAR_FAULT (R96, R97) -/

/-- R96 check 1: the requester is the MAINTENANCE session or owns the claim on top of the channel's stack. -/
def mayClearFault (s : State) (who : Requester) (c : Chan) : Bool :=
  who.info.role == .maintenance
    || (match s.claims.top c with
        | some i => s.claims.ownedBy (s.requesterId who) i
        | none => false)

/-- R97 step 2: the channel's miss count becomes 0. -/
def Monitor.clearMisses (m : Monitor) (c : Chan) : Monitor :=
  { m with chans := m.chans.modify c fun mc => { mc with missCount := 0 } }

/-- R97 steps 1 and 3: the condition becomes NORMAL and the target is recomputed. -/
def Channel.clearFault (ch : Channel) (quiesced : Bool) : Channel := ({ ch with condition := .normal }).retarget quiesced

/-- R97: the fault cleared: condition, miss count, target, then FAULT_CLEARED for every claim on the stack, top to
bottom. A FAULT report of the channel still on its way to the claim table is taken there first (log entry 10). -/
def State.clearFault (s : State) (c : Chan) : State :=
  ((({ s with monitor := s.monitor.clearMisses c }.changeChannel c (Channel.clearFault · s.outputs.quiesced)
    ).takeFaultNotice c).notices (s.claims.holders.get c) .faultCleared)

/-- R96, R97: CLEAR_FAULT at the output stage. -/
def ownClearFault (s : State) (who : Requester) (c : Chan) : State × Reply :=
  if ¬ mayClearFault s who c then (s, refuse .notPermitted)
  else if (s.outputs.chans.get c).condition = .normal then (s, refuse .notFaulted)
  else (s.clearFault c, okWith [])

def execClearFault (p : PortId) (s : State) : Host.Outcome State Fault Refusal :=
  .next (s.serve p .clearFault decodeChannel false ownClearFault)

/-! ## QUIESCEn (R84, R92, R93) -/

/-- R92: a fall taken by the output stage: the flag set, every ENABLED output stepped to rest, any conversion in
flight disturbed (R107), QUIESCE posted to every OPEN session. -/
def State.quiesce (s : State) : State :=
  let t := { s with outputs := { s.outputs with quiesced := true } }.changeChannels
    fun _ => Channel.whenEnabled Channel.stepToRest
  { t with monitor := t.monitor.disturb }.deviceNotice .quiesce

/-- R93: a rise taken by the output stage: the flag cleared, every target recomputed, QUIESCE posted. -/
def State.unquiesce (s : State) : State :=
  ({ s with outputs := { s.outputs with quiesced := false } }.changeChannels
    fun _ => Channel.whenEnabled (Channel.retarget · false)).deviceNotice .quiesce

/-- R84, R92: the pin falls. During device reset and the start-up load the level change is not taken. -/
def execQuiescenFall (s : State) : Host.Outcome State Fault Refusal :=
  if s.quiescenLow then .next s
  else if s.store.loadInProgress then .next { s with quiescenLow := true }
  else .next { s with quiescenLow := true }.quiesce

/-- R84, R93: the pin rises. -/
def execQuiescenRise (s : State) : Host.Outcome State Fault Refusal :=
  if ¬ s.quiescenLow then .next s
  else if s.store.loadInProgress then .next { s with quiescenLow := false }
  else .next { s with quiescenLow := false }.unquiesce

end Sys2Proof.Machine
end

