-- ==== Sys2Proof/Machine/Queries.lean ====
section
/-! DEFINITION. The requests that change nothing but the requester's keepalive: QUERY_CLAIM (R28), QUERY_CHANNEL (R29),
QUERY_DEVICE (R173); and UNKNOWN_REQUEST (R163 step 1). -/

namespace Sys2Proof.Machine

/-- R172: claim state, and standing or retire reason. -/
def queryState (t : ClaimTable) (i : RecIdx) (b : ClaimBody) : Nat × Nat :=
  match (t.recs.get i).state with
  | .retired _ why => (2, why.code)
  | .live _ => (1, (t.standing i b.chans).code)
  | .free => (1, (t.standing i b.chans).code)

/-- R172: one channel and value. -/
def pairBytes (q : Pair) : List Byte := be8 q.chan.val ++ be16 q.value

/-- R28, R172: the OK payload of QUERY_CLAIM; the tag bytes of an absent tag are log entry 32. -/
def queryClaimPayload (t : ClaimTable) (i : RecIdx) (b : ClaimBody) : List Byte :=
  (t.handle i).bytes ++ be8 (queryState t i b).1 ++ b.owner.bytes ++ be8 b.priority ++ tagBytes b.tag
    ++ be16 b.leaseLength ++ be16 b.remaining ++ be8 b.epoch.toNat ++ be8 (queryState t i b).2
    ++ be8 b.pairs.length ++ b.pairs.flatMap pairBytes

/-- R28: QUERY_CLAIM at the claim table. -/
def ownQueryClaim (s : State) (_ : Requester) (h : WireHandle) : State × Reply :=
  match s.claims.resolve h with
  | none => (s, refuse .noClaim)
  | some i =>
    match s.claims.body? i with
    | none => (s, refuse .noClaim)
    | some b => (s, okWith (queryClaimPayload s.claims i b))

/-- R29, R172: one stack entry: handle, owner, priority, value for the channel. -/
def stackEntryBytes (t : ClaimTable) (c : Chan) (i : RecIdx) : List Byte :=
  match t.body? i with
  | some b => (t.handle i).bytes ++ b.owner.bytes ++ be8 b.priority ++ be16 ((b.valueOn c).getD 0)
  | none => []

/-- R29, R172: the OK payload of QUERY_CHANNEL. DESIGN CHOICE where the stack is empty and the report of it is still on
its way (log entry 8): the target as the output stage holds it at that moment, not yet the rest value (log entry 31). -/
def queryChannelPayload (s : State) (c : Chan) : List Byte :=
  let ch := s.outputs.chans.get c
  be8 c.val ++ be16 ch.target ++ be16 ch.output ++ be8 ch.rampState.code ++ be8 ch.condition.code ++ be16 ch.low
    ++ be16 ch.high ++ be8 (s.monitor.chans.get c).missCount ++ be8 (s.claims.holders.get c).length
    ++ (s.claims.holders.get c).flatMap (stackEntryBytes s.claims c)

/-- R29: QUERY_CHANNEL at the claim table. -/
def ownQueryChannel (s : State) (_ : Requester) (c : Chan) : State × Reply := (s, okWith (queryChannelPayload s c))

/-! ## QUERY_DEVICE (R173) -/

/-- Nothing read yet. -/
def DeviceReading.unread : DeviceReading :=
  { supervisor := none, quiesced := none, freeRecords := none, openSessions := none, store := none }

/-- R173: the profile store's items, as the store stands. -/
def ProfileStore.items (st : ProfileStore) : StoreItems :=
  { generation := st.active.generation, defaulted := st.defaulted, committing := st.commit.isSome,
    outcome := st.lastOutcome }

/-- R173: the items of one block read together, as the block stands; a block already read keeps what was read. -/
def DeviceReading.read (s : State) (g : DeviceReading) : DeviceBlock → DeviceReading
  | .supervisor => { g with supervisor := g.supervisor <|> some (s.supervisor.state, s.supervisor.refPresent) }
  | .outputStage => { g with quiesced := g.quiesced <|> some s.outputs.quiesced }
  | .claimTable => { g with freeRecords := g.freeRecords <|> some s.claims.freeCount }
  | .sessionTable => { g with openSessions := g.openSessions <|> some s.sessions.openSlots.length }
  | .profileStore => { g with store := g.store <|> some s.store.items }

/-- R173: the OK payload, once every block has been read. -/
def DeviceReading.payload? (g : DeviceReading) : Option (List Byte) :=
  match g.supervisor, g.quiesced, g.freeRecords, g.openSessions, g.store with
  | some sup, some quiesced, some free, some sessions, some st =>
    some (be8 sup.1.code ++ flagByte sup.2 ++ flagByte quiesced ++ be8 free ++ be8 sessions
      ++ be32 st.generation.toNat ++ flagByte st.defaulted ++ flagByte st.committing ++ be8 st.outcome.code)
  | _, _, _, _, _ => none

/-- R173: the decoder reads the listed blocks for the QUERY_DEVICE in flight at port `p`, after those already read; the
response is produced once every block has been read. -/
def State.readDevice (s : State) (p : PortId) (g : DeviceReading) (reads : List DeviceBlock) : State :=
  match (reads.foldl (DeviceReading.read s) g).payload? with
  | some payload =>
    (s.modifyPort p fun q => { q with reading := none }).answer p RequestCode.queryDevice.byte (okWith payload)
  | none => s.modifyPort p fun q => { q with reading := some (reads.foldl (DeviceReading.read s) g) }

/-! ## The meanings -/

def execQueryClaim (p : PortId) (s : State) : Host.Outcome State Fault Refusal :=
  .next (s.serve p .queryClaim decodeHandle false ownQueryClaim)

def execQueryChannel (p : PortId) (s : State) : Host.Outcome State Fault Refusal :=
  .next (s.serve p .queryChannel decodeChannel false ownQueryChannel)

/-- R173: QUERY_DEVICE at the decoder. The common checks come first; the blocks are then read in one step or in several,
with the events of other blocks between them (log entry 25). -/
def execQueryDevice (p : PortId) (s : State) (reads : List DeviceBlock := DeviceBlock.all) :
    Host.Outcome State Fault Refusal :=
  match (s.ports.get p).reading with
  | some g => .next (s.readDevice p g reads)
  | none =>
    match s.commonChecks p .queryDevice decodeNone false with
    | .absent => .next s
    | .refused t why => .next (t.answer p RequestCode.queryDevice.byte (refuse why))
    | .passed t _ _ => .next (t.readDevice p .unread reads)

/-- R163 step 1: a request whose byte 0 is no request code is answered UNKNOWN_REQUEST. -/
def execUnknownRequest (p : PortId) (s : State) : Host.Outcome State Fault Refusal :=
  match s.requestAt p with
  | none => .next s
  | some r =>
    match RequestCode.ofByte (r.getD 0 0#8) with
    | some _ => .next s
    | none => .next (s.answer p (r.getD 0 0#8) (refuse .unknownRequest))

end Sys2Proof.Machine
end

