-- ==== Sys2Proof/Machine/Readback.lean ====
section
/-! DEFINITION. The readback monitor's completion event (R102, R107 to R109). -/

namespace Sys2Proof.Machine

/-- R102: the reading of an input given in counts (0 V is 0, VREF is 1023): an input outside that range reads as the
nearer end. -/
def reading (input : Int) : Nat := (max 0 (min 1023 input)).toNat

/-- R108 step 2: the difference of two counts, without sign. -/
def distance (a b : Nat) : Nat := (a - b) + (b - a)

/-- R107: whether the conversion's reading is discarded at its completion. -/
def State.conversionDisturbed (s : State) (cv : Conversion) : Bool :=
  cv.disturbed || (s.outputs.chans.get cv.chan).outputState == .disabled
    || (s.outputs.chans.get cv.chan).condition == .faulted || s.outputs.quiesced

/-- R108, R109: the miss count after a reading that is not discarded. -/
def MonitorChannel.judged (mc : MonitorChannel) (within : Bool) : MonitorChannel :=
  if within then { mc with missCount := 0 }
  else if mc.missCount + 1 = mc.missLimit then { mc with missCount := 0 }
  else { mc with missCount := mc.missCount + 1 }

/-- R109: the reading is a miss that brings the count to the miss limit. -/
def MonitorChannel.reachesLimit (mc : MonitorChannel) (within : Bool) : Bool :=
  !within && decide (mc.missCount + 1 = mc.missLimit)

/-- R108, R109: the conversion evaluated on its channel: nothing when disturbed, else the miss count judged and, at the
miss limit, a fault reported to the output stage. -/
def State.evaluate (s : State) (cv : Conversion) (input : Int) : State :=
  let mc := s.monitor.chans.get cv.chan
  let within := decide (distance (reading input) cv.outputAtStart ≤ mc.tolerance)
  if s.conversionDisturbed cv then s
  else
    { s with
      monitor := { s.monitor with chans := s.monitor.chans.set cv.chan (mc.judged within) }
      transit := { s.transit with
        faultReports := if mc.reachesLimit within then s.transit.faultReports ++ [cv.chan]
                        else s.transit.faultReports } }

/-- R108: the conversion in flight completes with the level `input` at its RB pin; the monitor then searches again. A
monitor with no conversion in flight has no completion (R102). -/
def execConversionCompletion (input : Int) (s : State) : Host.Outcome State Fault Refusal :=
  match s.monitor.state with
  | .converting cv => .next (s.evaluate cv input).search
  | .stopped => .next s
  | .waiting => .next s

end Sys2Proof.Machine
end

