-- ==== Sys2Proof/Machine/Sessions.lean ====
section
/-! DEFINITION. The session table's requests: OPEN, CLOSE, KEEPALIVE (R54 to R56, R60, R64). -/

namespace Sys2Proof.Machine

/-! ## OPEN (R54 to R56) -/

/-- R54 check 1: an OPEN session bound to the port with this master tag. -/
def SessionTable.tagHolder (t : SessionTable) (p : PortId) (tag : BitVec 16) : Option Slot :=
  (List.finRange 8).find? fun slot => (t.info? slot).any fun info => info.port == p && info.tag == tag

/-- R53, R54 check 2: a MAINTENANCE session is OPEN on either port. -/
def SessionTable.maintenanceHeld (t : SessionTable) : Bool :=
  (List.finRange 8).any fun slot => (t.info? slot).any fun info => info.role == .maintenance

/-- R55: the CLOSED slot of lowest number. -/
def SessionTable.lowestClosed (t : SessionTable) : Option Slot :=
  (List.finRange 8).find? fun slot => (t.recs.get slot).state == .closed

/-- R55: the slot an accepted OPEN takes: the lowest CLOSED slot, otherwise the earliest lapse. -/
def SessionTable.slotToTake (t : SessionTable) : Option Slot :=
  match t.lowestClosed with
  | some slot => some slot
  | none => t.lapseList.head?

/-- R49, R55: the slot opened: generation incremented, fields set, out of the lapse list. -/
def SessionTable.openSlot (t : SessionTable) (slot : Slot) (p : PortId) (q : OpenParams) : SessionTable :=
  { recs := t.recs.modify slot fun r =>
      { gen := r.gen + 1
        state := .opened { port := p, role := q.role, tag := q.tag, interval := q.interval, remaining := q.interval } }
    lapseList := t.lapseList.erase slot }

/-- R56: the device notices an accepted OPEN posts, in their order. -/
def openingNotices (s : State) : List DeviceKind :=
  (if s.supervisor.state = .locked then [] else [.timebase])
    ++ (if s.outputs.quiesced then [.quiesce] else [])
    ++ (if s.store.defaulted then [.profile] else [])

/-- R55, R56: the session opened in `slot`, its list holding only the device notices of its OPEN (R65). -/
def State.openSession (s : State) (slot : Slot) (p : PortId) (q : OpenParams) : State :=
  { s with
    sessions := s.sessions.openSlot slot p q
    attention := s.attention.set slot ((openingNotices s).foldl (fun l k => addDevice k l) []) }

/-- R56, R170: the OK payload of OPEN. -/
def openPayload (s : State) (id : SessionId) (p : PortId) : List Byte :=
  id.bytes ++ be8 (s.store.active.ceiling p) ++ be32 s.store.active.generation.toNat ++ flagByte s.store.defaulted
    ++ be8 s.supervisor.state.code ++ flagByte s.outputs.quiesced

/-- R54 to R56: OPEN at the session table, from port `p`. -/
def ownOpen (p : PortId) (s : State) (q : OpenParams) : State × Reply :=
  match s.sessions.tagHolder p q.tag with
  | some holder => (s, ⟨.tagInUse, (s.sessions.idOf holder).bytes⟩)
  | none =>
    if q.role = .maintenance ∧ s.sessions.maintenanceHeld then (s, refuse .maintenanceHeld)
    else
      match s.sessions.slotToTake with
      | none => (s, refuse .sessionsExhausted)
      | some slot =>
        (s.openSession slot p q, okWith (openPayload s ((s.sessions.openSlot slot p q).idOf slot) p))

/-! ## CLOSE and KEEPALIVE (R60, R64) -/

/-- R64: CLOSE at the session table. -/
def ownClose (s : State) (who : Requester) (_ : Unit) : State × Reply :=
  (s.endSession who.slot who.info false, okWith [])

/-- R60: KEEPALIVE at the session table; the check has already reloaded the keepalive. -/
def ownKeepalive (s : State) (who : Requester) (_ : Unit) : State × Reply :=
  (s, okWith (be16 who.info.interval ++ be8 (s.claims.ownedCount (s.requesterId who))
    ++ be8 (s.attention.get who.slot).length))

/-! ## The meanings -/

def execOpenSession (p : PortId) (s : State) : Host.Outcome State Fault Refusal := .next (s.serveOpen p (ownOpen p))

def execCloseSession (p : PortId) (s : State) : Host.Outcome State Fault Refusal :=
  .next (s.serve p .closeSession decodeNone false ownClose)

def execKeepalive (p : PortId) (s : State) : Host.Outcome State Fault Refusal :=
  .next (s.serve p .keepalive decodeNone false ownKeepalive)

end Sys2Proof.Machine
end

