-- ==== Sys2Proof/Machine/Timebase.lean ====
section
/-! DEFINITION. The timebase supervisor: windows and reference-present (R116, R117, R122, R123), ticks and what each
block does at one (R31, R33, R34, R61, R89, R106, R118 to R126), REFCLK edges, and RESUME (R127). -/

namespace Sys2Proof.Machine

/-! ## Changes of supervisor state -/

/-- R122, R127: the state becomes LOCKED: no countdown, ticks from REFCLK edges, the divider restarted (R119);
TIMEBASE is posted (R130). -/
def State.enterLocked (s : State) : State :=
  { s with supervisor := { s.supervisor with
      state := .locked, holdoverRemaining := none, source := .refclkEdges, dividerCount := 0 } }.deviceNotice .timebase

/-- R123: the state becomes HOLDOVER with a full countdown: ticks from internal periods, the divider restarted;
TIMEBASE is posted. A tick produced before the entry counts nothing down (R124): the supervisor has none left to take
(log entry 27). -/
def State.enterHoldover (s : State) : State :=
  { s with
    supervisor := { s.supervisor with
      state := .holdover, holdoverRemaining := some s.supervisor.holdoverPeriod, source := .internalPeriods,
      dividerCount := 0 }
    transit := { s.transit with ticks := { s.transit.ticks with supervisor := 0 } } }.deviceNotice .timebase

/-- The LIVE records, in ascending index order. -/
def ClaimTable.liveRecords (t : ClaimTable) : List RecIdx := (List.finRange 64).filter fun i => (t.live? i).isSome

/-- R45: the sweep: every LIVE record retires SWEPT, in ascending index order, and the empty stacks are reported. -/
def State.sweep (s : State) : State := s.retireMany s.claims.liveRecords .swept

/-- R125: the entry into LAPSED: the sweep, the state, the notice. The divider runs on (R119). -/
def State.enterLapsed (s : State) : State :=
  { s.sweep with supervisor := { s.supervisor with state := .lapsed, holdoverRemaining := none } }.deviceNotice .timebase

/-! ## Windows (R116, R117) -/

/-- R116: the window that ends is good. -/
def Supervisor.goodWindow (u : Supervisor) : Bool := decide (u.edgeCount = Config.goodEdges)

/-- R117: this window end sets reference-present. -/
def Supervisor.setsReference (u : Supervisor) : Bool :=
  u.goodWindow && decide (u.goodRun + 1 = Config.goodRunFull)

/-- R116, R117: the counts after a window end. -/
def Supervisor.windowEnded (u : Supervisor) : Supervisor :=
  { u with
    windowPos := 0
    edgeCount := 0
    goodRun := if u.goodWindow then min Config.goodRunFull (u.goodRun + 1) else 0
    refPresent := if u.goodWindow then u.refPresent || u.setsReference else false }

/-- R116, R117, R122 to R126, R130: one window end. Before the end of the start-up load (R121) only the counts and
reference-present change. -/
def State.windowEnd (s : State) : State :=
  let t := { s with supervisor := s.supervisor.windowEnded }
  if s.supervisor.producing then
    match s.supervisor.state with
    | .starting => if s.supervisor.setsReference then t.enterLocked else t
    | .locked => if s.supervisor.goodWindow then t else t.enterHoldover
    | .holdover => if s.supervisor.setsReference then t.deviceNotice .timebase else t
    | .lapsed => if s.supervisor.setsReference then t.deviceNotice .timebase else t
  else t

/-- R116: WINDOW_END. While RESETn is held low there is no window (R115). The command is the event itself, whatever
the window position (log entry 6). -/
def execWindowEnd (s : State) : Host.Outcome State Fault Refusal :=
  if s.resetHeld then .next s else .next s.windowEnd

/-! ## Production of ticks (R118) -/

/-- One more tick handed to each of the five blocks. -/
def TicksOwed.handOut (o : TicksOwed) : TicksOwed :=
  { claimTable := o.claimTable + 1, sessionTable := o.sessionTable + 1, outputStage := o.outputStage + 1,
    readbackMonitor := o.readbackMonitor + 1, supervisor := o.supervisor + 1 }

/-- The ticks handed to a block that it has not yet taken. -/
def TicksOwed.of (o : TicksOwed) : TickTaker → Nat
  | .claimTable => o.claimTable
  | .sessionTable => o.sessionTable
  | .outputStage => o.outputStage
  | .readbackMonitor => o.readbackMonitor
  | .supervisor => o.supervisor

/-- A block takes one tick. -/
def TicksOwed.take (o : TicksOwed) : TickTaker → TicksOwed
  | .claimTable => { o with claimTable := o.claimTable - 1 }
  | .sessionTable => { o with sessionTable := o.sessionTable - 1 }
  | .outputStage => { o with outputStage := o.outputStage - 1 }
  | .readbackMonitor => { o with readbackMonitor := o.readbackMonitor - 1 }
  | .supervisor => { o with supervisor := o.supervisor - 1 }

/-- The five blocks, in the order R118 lists them. -/
def TickTaker.all : List TickTaker := [.claimTable, .sessionTable, .outputStage, .readbackMonitor, .supervisor]

/-- Some block has a tick it has not yet taken. -/
def TicksOwed.any (o : TicksOwed) : Bool := TickTaker.all.any fun b => decide (0 < o.of b)

/-- R118: the divider reaches its division: the count returns to 0 and a tick is handed to every block. -/
def State.produceTick (s : State) : State :=
  { s with supervisor := { s.supervisor with dividerCount := 0 }
           transit := { s.transit with ticks := s.transit.ticks.handOut } }

/-- R118: the division of the present tick source. -/
def Supervisor.division (u : Supervisor) : Nat :=
  match u.source with
  | .refclkEdges => u.prescaler
  | .internalPeriods => u.holdoverDivider

/-- R118: one edge or period of `source` at the tick divider. -/
def State.countDivider (s : State) (source : TickSource) : State :=
  if s.supervisor.producing ∧ s.supervisor.source = source then
    if s.supervisor.dividerCount + 1 ≥ s.supervisor.division then s.produceTick
    else { s with supervisor := { s.supervisor with dividerCount := s.supervisor.dividerCount + 1 } }
  else s

/-- R116, R118: a registered rising edge of REFCLK, counted in the window, up to 4, and by the divider in LOCKED. -/
def execRefclkEdge (s : State) : Host.Outcome State Fault Refusal :=
  if s.resetHeld then .next s
  else .next ({ s with supervisor := { s.supervisor with
    edgeCount := min Config.goodEdges (s.supervisor.edgeCount + 1) } }.countDivider .refclkEdges)

/-! ## A tick at each block -/

/-- R31: remaining of a LIVE record decreases by one. -/
def ClaimRecord.leaseTick (r : ClaimRecord) : ClaimRecord :=
  match r.state with
  | .live b => { r with state := .live { b with remaining := b.remaining - 1 } }
  | .free => r
  | .retired _ _ => r

/-- R31: every LIVE record decremented. -/
def State.decrementLeases (s : State) : State := { s with claims := { s.claims with recs := s.claims.recs.map (·.leaseTick) } }

/-- R33: the LIVE records whose remaining is 0, in ascending index order. -/
def ClaimTable.runOut (t : ClaimTable) : List RecIdx :=
  (List.finRange 64).filter fun i => (t.live? i).any fun b => b.remaining == 0

/-- R33, R34: the records that ran out retire EXPIRED. -/
def State.expire (s : State) : State := s.retireMany s.claims.runOut .expired

/-- R61: keepalive remaining of an OPEN session decreases by one. -/
def Session.keepaliveTick (r : Session) : Session :=
  match r.state with
  | .opened info => { r with state := .opened { info with remaining := info.remaining - 1 } }
  | .closed => r
  | .lapsed => r

/-- R61: every OPEN session decremented. -/
def State.decrementKeepalives (s : State) : State :=
  { s with sessions := { s.sessions with recs := s.sessions.recs.map (·.keepaliveTick) } }

/-- R61, R62: one slot lapses if it is OPEN and its keepalive ran out. -/
def State.lapseSlot (s : State) (slot : Slot) : State :=
  match s.sessions.info? slot with
  | some info => if info.remaining = 0 then s.endSession slot info true else s
  | none => s

/-- R61: the sessions whose keepalive ran out lapse, in ascending slot order, each a whole session end. -/
def State.lapseSessions (s : State) : State := (List.finRange 8).foldl State.lapseSlot s

/-- R89: every RAMPING record moves one step. -/
def State.rampChannels (s : State) : State := s.changeChannels fun _ => Channel.whenEnabled Channel.rampTick

/-- R106: the monitor searches if it is waiting. -/
def State.searchIfWaiting (s : State) : State :=
  match s.monitor.state with
  | .waiting => s.search
  | .stopped => s
  | .converting _ => s

/-- R122, R124: holdover remaining decreases by one in STARTING and HOLDOVER; LOCKED and LAPSED have no countdown. -/
def State.decrementHoldover (s : State) : State :=
  { s with supervisor := { s.supervisor with holdoverRemaining := s.supervisor.holdoverRemaining.map (· - 1) } }

/-- R125: holdover remaining has reached 0 in STARTING or HOLDOVER. -/
def Supervisor.holdoverOut (u : Supervisor) : Bool :=
  (u.state == .starting || u.state == .holdover) && u.holdoverRemaining == some 0

/-- R125: the entry into LAPSED when holdover remaining has reached 0. -/
def State.lapseIfOut (s : State) : State := if s.supervisor.holdoverOut then s.enterLapsed else s

/-- What a block does at a tick, as one event of its own (R118). -/
def State.blockTick (s : State) : TickTaker → State
  | .claimTable => s.decrementLeases.expire
  | .sessionTable => s.decrementKeepalives.lapseSessions
  | .outputStage => s.rampChannels
  | .readbackMonitor => s.searchIfWaiting
  | .supervisor => s.decrementHoldover.lapseIfOut

/-- A block takes a tick it has been handed, if it has one. -/
def State.takeTick (s : State) (b : TickTaker) : State :=
  if s.transit.ticks.of b = 0 then s
  else { s with transit := { s.transit with ticks := s.transit.ticks.take b } }.blockTick b

/-- R118: TICK. The divider reaches its division and a tick is handed to the five blocks, unless ticks already handed
have not all been taken; the listed blocks then take theirs, in the order listed. A block not listed takes its tick at
a later TICK, LEASE_EXPIRY, SESSION_LAPSE or LAPSED_ENTRY (log entries 6 and 7). -/
def execTick (takers : List TickTaker) (s : State) : Host.Outcome State Fault Refusal :=
  if s.transit.ticks.any then .next (takers.foldl State.takeTick s)
  else if s.supervisor.producing then .next (takers.foldl State.takeTick s.produceTick)
  else .next s

/-- R33, R34: the claim table takes a tick handed to it, and the LIVE records whose remaining is 0 retire EXPIRED. -/
def execLeaseExpiry (s : State) : Host.Outcome State Fault Refusal := .next (s.takeTick .claimTable).expire

/-- R61, R62: the session table takes a tick handed to it, and the sessions whose keepalive is 0 lapse. -/
def execSessionLapse (s : State) : Host.Outcome State Fault Refusal := .next (s.takeTick .sessionTable).lapseSessions

/-- R125: the supervisor takes a tick handed to it, and enters LAPSED if holdover remaining is 0. -/
def execLapsedEntry (s : State) : Host.Outcome State Fault Refusal := .next (s.takeTick .supervisor).lapseIfOut

/-! ## RESUME (R127) -/

/-- R127, R170: supervisor state and reference-present as they stand after the request. -/
def resumePayload (s : State) : List Byte := be8 s.supervisor.state.code ++ flagByte s.supervisor.refPresent

/-- R127: RESUME at the supervisor. -/
def ownResume (s : State) (_ : Requester) (_ : Unit) : State × Reply :=
  match s.supervisor.state with
  | .starting => (s, ⟨.noReference, resumePayload s⟩)
  | .locked => (s, okWith (resumePayload s))
  | .holdover =>
    if s.supervisor.refPresent then (s.enterLocked, okWith (resumePayload s.enterLocked))
    else (s, ⟨.noReference, resumePayload s⟩)
  | .lapsed =>
    if s.supervisor.refPresent then (s.enterLocked, okWith (resumePayload s.enterLocked))
    else (s, ⟨.noReference, resumePayload s⟩)

def execResume (p : PortId) (s : State) : Host.Outcome State Fault Refusal :=
  .next (s.serve p .resume decodeNone false ownResume)

end Sys2Proof.Machine
end

