-- ==== Sys2Proof/Machine/Dispatch.lean ====
section
/-! DEFINITION. The meaning of every command, one arm for each. -/

namespace Sys2Proof.Machine

def exec (i : Instr) (s : State) : Host.Outcome State Fault Refusal :=
  match i with
  | .deviceReset reached flaws => Sys2Proof.Machine.execDeviceReset reached flaws s
  | .resetEnd => Sys2Proof.Machine.execResetEnd s
  | .startUpLoadCompletion => Sys2Proof.Machine.execStartUpLoadCompletion s
  | .submit p x => Sys2Proof.Machine.execSubmit p x s
  | .collect p x => Sys2Proof.Machine.execCollect p x s
  | .peek p x => Sys2Proof.Machine.execPeek p x s
  | .clear p x => Sys2Proof.Machine.execClear p x s
  | .unknownFrame p x => Sys2Proof.Machine.execUnknownFrame p x s
  | .responseProduced p => Sys2Proof.Machine.execResponseProduced p s
  | .unknownRequest p => Sys2Proof.Machine.execUnknownRequest p s
  | .openSession p => Sys2Proof.Machine.execOpenSession p s
  | .closeSession p => Sys2Proof.Machine.execCloseSession p s
  | .keepalive p => Sys2Proof.Machine.execKeepalive p s
  | .claim p => Sys2Proof.Machine.execClaim p s
  | .set p => Sys2Proof.Machine.execSet p s
  | .setIf p => Sys2Proof.Machine.execSetIf p s
  | .renew p => Sys2Proof.Machine.execRenew p s
  | .release p => Sys2Proof.Machine.execRelease p s
  | .transfer p => Sys2Proof.Machine.execTransfer p s
  | .revoke p => Sys2Proof.Machine.execRevoke p s
  | .fetch p => Sys2Proof.Machine.execFetch p s
  | .queryClaim p => Sys2Proof.Machine.execQueryClaim p s
  | .queryChannel p => Sys2Proof.Machine.execQueryChannel p s
  | .queryDevice p reads => Sys2Proof.Machine.execQueryDevice p s reads
  | .clearFault p => Sys2Proof.Machine.execClearFault p s
  | .resume p => Sys2Proof.Machine.execResume p s
  | .profileRead p => Sys2Proof.Machine.execProfileRead p s
  | .profileStage p => Sys2Proof.Machine.execProfileStage p s
  | .profileCommit p => Sys2Proof.Machine.execProfileCommit p s
  | .profileDiscard p => Sys2Proof.Machine.execProfileDiscard p s
  | .commitCompletion flaws order => Sys2Proof.Machine.execCommitCompletion flaws order s
  | .windowEnd => Sys2Proof.Machine.execWindowEnd s
  | .tick takers => Sys2Proof.Machine.execTick takers s
  | .leaseExpiry => Sys2Proof.Machine.execLeaseExpiry s
  | .sessionLapse => Sys2Proof.Machine.execSessionLapse s
  | .lapsedEntry => Sys2Proof.Machine.execLapsedEntry s
  | .conversionCompletion input => Sys2Proof.Machine.execConversionCompletion input s
  | .channelFault c => Sys2Proof.Machine.execChannelFault c s
  | .faultNotice c => Sys2Proof.Machine.execFaultNotice c s
  | .topReport c => Sys2Proof.Machine.execTopReport c s
  | .valueReport c => Sys2Proof.Machine.execValueReport c s
  | .quiescenFall => Sys2Proof.Machine.execQuiescenFall s
  | .quiescenRise => Sys2Proof.Machine.execQuiescenRise s
  | .refclkEdge => Sys2Proof.Machine.execRefclkEdge s

end Sys2Proof.Machine
end

