-- ==== Sys2Proof/Machine/Idle.lean ====
section
/-! DEFINITION. What the part does with no command waiting: the events it owes itself (log entry 5), and one period of its
internal oscillator (R85, R116, R118). -/

namespace Sys2Proof.Machine

/-! ## One period of the internal oscillator -/

/-- R85: one oscillator period of the carrier; a carrier period that begins holds each output value as it stands. -/
def State.carrierPeriod (s : State) : State :=
  { s with outputs :=
      if s.outputs.carrier + 1 < Config.carrierPeriods then { s.outputs with carrier := s.outputs.carrier + 1 }
      else { s.outputs with carrier := 0, chans := s.outputs.chans.map fun ch => { ch with latched := ch.output } } }

/-- R116: one oscillator period of the window, whose 512th ends it. -/
def State.windowPeriod (s : State) : State :=
  if s.supervisor.windowPos + 1 < Config.windowPeriods then
    { s with supervisor := { s.supervisor with windowPos := s.supervisor.windowPos + 1 } }
  else s.windowEnd

/-- One internal oscillator period: the carrier, then the tick divider, then the window (log entry 21). While RESETn is
held low nothing runs. -/
def State.internalPeriod (s : State) : State :=
  if s.resetHeld then s else (s.carrierPeriod.countDivider .internalPeriods).windowPeriod

/-! ## Events the part owes itself -/

/-- R164: the command that takes a request of a code, at a port; QUERY_DEVICE reads every block. -/
def RequestCode.command (p : PortId) : RequestCode → Instr
  | .openSession => .openSession p
  | .closeSession => .closeSession p
  | .keepalive => .keepalive p
  | .claim => .claim p
  | .set => .set p
  | .setIf => .setIf p
  | .renew => .renew p
  | .release => .release p
  | .transfer => .transfer p
  | .revoke => .revoke p
  | .fetch => .fetch p
  | .queryClaim => .queryClaim p
  | .queryChannel => .queryChannel p
  | .queryDevice => .queryDevice p DeviceBlock.all
  | .clearFault => .clearFault p
  | .resume => .resume p
  | .profileRead => .profileRead p
  | .profileStage => .profileStage p
  | .profileCommit => .profileCommit p
  | .profileDiscard => .profileDiscard p

/-- R163 step 1: the command that takes a request with these bytes. -/
def requestCommand (p : PortId) (r : List Byte) : Instr :=
  match RequestCode.ofByte (r.getD 0 0#8) with
  | some k => RequestCode.command p k
  | none => .unknownRequest p

/-- What port `p` waits for: the production of its response, or the taking of its request. -/
def State.duePort (s : State) (p : PortId) : Option Instr :=
  match (s.ports.get p).inFlight, (s.ports.get p).produced with
  | some _, some _ => some (.responseProduced p)
  | some f, none => some (requestCommand p f.bytes)
  | none, _ => none

/-- The oldest report on its way to the lowest channel that has one. -/
def State.dueReport (s : State) : Option Instr :=
  allChans.findSome? fun c =>
    match (s.transit.reports.get c).head? with
    | some (.newTop _ _) => some (.topReport c)
    | some .emptyStack => some (.topReport c)
    | some (.newValue _) => some (.valueReport c)
    | none => none

/-- A tick handed to a block that it has not yet taken. -/
def State.dueTick (s : State) : Option Instr := if s.transit.ticks.any then some (.tick TickTaker.all) else none

/-- The event taken on an empty queue. DESIGN CHOICE (log entry 5): ticks first, then fault reports, then reports, then
the ports. -/
def State.dueEvent (s : State) : Option Instr :=
  s.dueTick <|> s.transit.faultReports.head?.map .channelFault <|> s.transit.faultNotices.head?.map .faultNotice
    <|> s.dueReport <|> s.duePort .port0 <|> s.duePort .port1

end Sys2Proof.Machine
end

