-- ==== Sys2Proof/Safety.lean ====
section
/-! DEFINITION. What a safe run keeps: the whole-machine rules of the spec, each as a property of one state. -/

namespace Sys2Proof.Machine

/-! ## The start-up load (R134, R135) -/

/-- R134, R135: the load has a choice only while it is in progress, and none yet while RESETn is held low. -/
abbrev LoadInv (s : State) : Prop :=
  (s.store.loadChoice.isSome = true → s.store.loadInProgress = true)
    ∧ (s.resetHeld = true → s.store.loadInProgress = true ∧ s.store.loadChoice = none)

/-! ## Link ports (R148) -/

/-- R148: the port's items hold together in one of the combinations of the table. -/
def Port.combined (q : Port) : Bool :=
  match q.state with
  | .starting => q.inFlight.isNone && q.waiting.isNone && q.buffer.isNone
  | .ready => q.inFlight.all InFlight.abandoned && q.waiting.isNone && q.buffer.isNone
  | .working => q.inFlight.any (fun f => f.abandoned == q.waiting.isSome) && q.buffer.isNone
  | .answering => q.inFlight.isNone && q.waiting.isNone && q.buffer.isSome

/-- R148, R149: the port state may have gone from `atFall` to `now` while chip select was low. -/
def PortState.mayFollow (atFall now : PortState) : Bool :=
  match atFall with
  | .starting => now == .starting || now == .ready
  | .ready => now == .ready
  | .working => now == .working || now == .answering
  | .answering => now == .answering

/-- A port as a run leaves it: its items combined by R148, a produced response only for a request in flight, reads only
for one not answered (R173), a transaction only while chip select is low (R149), its state at the fall one the port can
have left, and STARTING exactly while the load is in progress (R161). -/
abbrev Port.sound (q : Port) (loading : Bool) : Prop :=
  q.combined = true ∧ (q.produced.isSome = true → q.inFlight.isSome = true)
    ∧ (q.reading.isSome = true → q.inFlight.isSome = true ∧ q.produced = none)
    ∧ (∀ tr ∈ q.transaction, q.csLow = true ∧ tr.stateAtFall.mayFollow q.state = true)
    ∧ (q.state = .starting ↔ loading = true)

/-- R148, R161: both ports are as a run leaves them. -/
abbrev PortsInv (s : State) : Prop :=
  s.ports.port0.sound s.store.loadInProgress ∧ s.ports.port1.sound s.store.loadInProgress ∧ LoadInv s

/-! ## Sessions and ownership (R1, R4, R48, R51, R53, R54, R65) -/

/-- R53: at most one MAINTENANCE session is OPEN. -/
abbrev SessionTable.oneMaintenance (t : SessionTable) : Prop :=
  ∀ a b, (∃ i ∈ t.info? a, i.role = .maintenance) → (∃ i ∈ t.info? b, i.role = .maintenance) → a = b

/-- R54: no two OPEN sessions of one port have the same master tag. -/
abbrev SessionTable.tagsDistinct (t : SessionTable) : Prop :=
  ∀ a b, ∀ i ∈ t.info? a, ∀ j ∈ t.info? b, i.port = j.port → i.tag = j.tag → a = b

/-- R51: the lapse list holds the LAPSED slots, none twice. -/
abbrev SessionTable.lapsesListed (t : SessionTable) : Prop :=
  t.lapseList.Nodup ∧ ∀ slot, slot ∈ t.lapseList ↔ (t.recs.get slot).state = .lapsed

/-- R48: interval and remaining of an OPEN session lie in their ranges. -/
abbrev SessionTable.countsInRange (t : SessionTable) : Prop :=
  ∀ slot, ∀ i ∈ t.info? slot, 10 ≤ i.interval ∧ i.interval ≤ 65535 ∧ 1 ≤ i.remaining ∧ i.remaining ≤ i.interval

/-- R48, R51, R53, R54. -/
abbrev SessionsInv (s : State) : Prop :=
  s.sessions.oneMaintenance ∧ s.sessions.tagsDistinct ∧ s.sessions.lapsesListed ∧ s.sessions.countsInRange

/-- R1: the owner of every LIVE or RETIRED record is an OPEN session. -/
abbrev ownersOpen (s : State) : Prop :=
  ∀ i, ∀ b ∈ s.claims.body? i, s.sessions.isOpen b.owner.slot = true ∧ s.sessions.idOf b.owner.slot = b.owner

/-- R1, R4, R49, R65, over the sessions: owners are OPEN, no session owns more than 16 records, and a slot that is not
OPEN has an empty attention list. -/
abbrev OwnersInv (s : State) : Prop :=
  SessionsInv s ∧ ownersOpen s ∧ (∀ slot, s.claims.ownedCount (s.sessions.idOf slot) ≤ Config.maxOwned)
    ∧ ∀ slot, s.sessions.isOpen slot = false → s.attention.get slot = []

/-! ## Attention lists (R24, R65, R66) -/

/-- The slot of the owner of record `i`, if it is LIVE or RETIRED. -/
def ClaimTable.ownerSlot (t : ClaimTable) (i : RecIdx) : Option Slot := (t.body? i).map fun b => b.owner.slot

/-- R24, R65, R66, over the sessions: each list holds at most one entry for each record and one for each device kind, a
claim entry carries some reason and names by its present handle a LIVE or RETIRED record of that session, and every
RETIRED record has an entry in its owner's list with its retire reason. -/
abbrev ListsInv (s : State) : Prop :=
  OwnersInv s
    ∧ (∀ slot i, ((s.attention.get slot).filter (Entry.isFor i)).length ≤ 1)
    ∧ (∀ slot k, (s.attention.get slot).count (.device k) ≤ 1)
    ∧ (∀ slot h rs, .claim h rs ∈ s.attention.get slot →
        rs ≠ 0#8 ∧ h = s.claims.handle h.index ∧ s.claims.ownerSlot h.index = some slot)
    ∧ ∀ i b why, (s.claims.recs.get i).state = .retired b why →
        ∃ rs, .claim (s.claims.handle i) rs ∈ s.attention.get b.owner.slot
          ∧ rs &&& why.reason.mask = why.reason.mask

/-! ## Claim records and holder stacks (R1, R5, R6, R30) -/

/-- Record `i` is LIVE and lists channel `c`. -/
def ClaimTable.listsLive (t : ClaimTable) (c : Chan) (i : RecIdx) : Bool :=
  (t.live? i).any fun b => decide (c ∈ b.chans)

/-- R5, R6: a stack of at most 4 records, in strictly decreasing priority, holding exactly the LIVE records that list
the channel. -/
abbrev ClaimTable.stackSound (t : ClaimTable) (c : Chan) : Prop :=
  (t.holders.get c).length ≤ Config.stackDepth
    ∧ (t.holders.get c).Pairwise (fun i j => t.priority j < t.priority i)
    ∧ ∀ i, i ∈ t.holders.get c ↔ t.listsLive c i = true

/-- R5, R6: every stack is sound. -/
abbrev StacksInv (s : State) : Prop := ∀ c, s.claims.stackSound c

/-- R1: the fields of a LIVE or RETIRED record lie in their ranges. -/
abbrev ClaimBody.inRange (b : ClaimBody) : Prop :=
  b.priority ≤ 15 ∧ 1 ≤ b.pairs.length ∧ b.pairs.length ≤ 8 ∧ b.chans.Nodup
    ∧ (∀ q ∈ b.pairs, q.value ≤ Config.maxValue)
    ∧ 1 ≤ b.leaseLength ∧ b.leaseLength ≤ 65535 ∧ b.remaining ≤ b.leaseLength

/-- R1, R30: every record's fields lie in their ranges, and a LIVE record has at least one tick left. -/
abbrev LeasesInv (s : State) : Prop :=
  (∀ i, ∀ b ∈ s.claims.body? i, b.inRange) ∧ ∀ i, ∀ b ∈ s.claims.live? i, 1 ≤ b.remaining

/-! ## Outputs (R82, R88, R94) -/

/-- R88, R94: an ENABLED record is SETTLED exactly when its output stands at its target, and both are its rest value
while it is quiesced or FAULTED. -/
abbrev Channel.sound (ch : Channel) (quiesced : Bool) : Prop :=
  ch.outputState = .enabled →
    (ch.rampState = .settled ↔ ch.output = ch.target)
      ∧ (quiesced = true ∨ ch.condition = .faulted → ch.target = ch.rest ∧ ch.output = ch.rest)

/-- R88, R94, at every channel. -/
abbrev OutputsInv (s : State) : Prop := ∀ c, (s.outputs.chans.get c).sound s.outputs.quiesced

/-! ## Timebase supervisor (R115, R117, R121, R125) -/

/-- R125: no claim record is LIVE while the supervisor is STARTING or LAPSED. Until the load ends, the supervisor
stands in STARTING, produces no ticks and has no countdown (R121). -/
abbrev TimebaseInv (s : State) : Prop :=
  (s.supervisor.state = .starting ∨ s.supervisor.state = .lapsed → ∀ i, s.claims.live? i = none)
    ∧ (s.store.loadInProgress = true →
        s.supervisor.state = .starting ∧ s.supervisor.producing = false ∧ s.supervisor.holdoverRemaining = none)
    ∧ LoadInv s

/-- R117: reference-present is set exactly when the good run stands at 16; R115: the counts lie in their ranges. -/
abbrev Supervisor.counted (u : Supervisor) : Prop :=
  u.windowPos < Config.windowPeriods ∧ u.edgeCount ≤ Config.goodEdges ∧ u.goodRun ≤ Config.goodRunFull
    ∧ (u.refPresent = true ↔ u.goodRun = Config.goodRunFull)

/-- R115, R117, R118, R121: once producing, the supervisor counts REFCLK edges exactly in LOCKED, has reference-present
set in LOCKED and clear in STARTING, and has a countdown exactly in STARTING and HOLDOVER. -/
abbrev SupervisorInv (s : State) : Prop :=
  s.supervisor.counted
    ∧ (s.supervisor.producing = true →
        (s.supervisor.source = .refclkEdges ↔ s.supervisor.state = .locked)
          ∧ (s.supervisor.state = .locked → s.supervisor.refPresent = true)
          ∧ (s.supervisor.state = .starting → s.supervisor.refPresent = false)
          ∧ (s.supervisor.holdoverRemaining.isSome = true ↔
              s.supervisor.state = .starting ∨ s.supervisor.state = .holdover))
    ∧ (s.supervisor.producing = false → s.supervisor.state = .starting ∧ s.supervisor.holdoverRemaining = none)
    ∧ (s.supervisor.producing = true ↔ s.store.loadInProgress = false) ∧ LoadInv s

/-- R118: the division of the tick source in force. -/
abbrev Supervisor.presentDivision (u : Supervisor) : Nat :=
  if u.source = .refclkEdges then u.prescaler else u.holdoverDivider

/-! ## Profiles (R132, R144) -/

/-- R132: every field in its range and every channel consistent. -/
def Profile.sound (prof : Profile) : Bool := prof.inRange && prof.consistent

/-- R132: the active profile is in range and consistent, the staging profile in range, and so are a commit's image and a
load's choice as what they may become. -/
abbrev ProfilesInv (s : State) : Prop :=
  s.store.active.sound = true ∧ s.store.staging.inRange = true
    ∧ (∀ cm ∈ s.store.commit, cm.image.sound = true)
    ∧ ∀ choice ∈ s.store.loadChoice, choice.profile.sound = true

/-- R115, over the supervisor's states and the profiles: the three settings are at least 1, the divider count lies below
the division in force, and holdover remaining between 1 and the holdover period. -/
abbrev CountsInv (s : State) : Prop :=
  SupervisorInv s ∧ ProfilesInv s
    ∧ 1 ≤ s.supervisor.prescaler ∧ 1 ≤ s.supervisor.holdoverDivider ∧ 1 ≤ s.supervisor.holdoverPeriod
    ∧ s.supervisor.dividerCount < s.supervisor.presentDivision
    ∧ ∀ n ∈ s.supervisor.holdoverRemaining, 1 ≤ n ∧ n ≤ s.supervisor.holdoverPeriod

/-- R101, R109, over the profiles: every miss count lies below its miss limit. -/
abbrev MissesInv (s : State) : Prop :=
  ProfilesInv s ∧ ∀ c, (s.monitor.chans.get c).missCount < (s.monitor.chans.get c).missLimit

/-- The output stage, the readback monitor and the supervisor hold the settings of the active profile. -/
abbrev settingsDelivered (s : State) : Prop :=
  (∀ c, (s.outputs.chans.get c).settings (s.store.active.chans.get c) = s.outputs.chans.get c)
    ∧ (∀ c, { missCount := (s.monitor.chans.get c).missCount
              enable := (s.store.active.chans.get c).enable == 1
              tolerance := (s.store.active.chans.get c).tolerance
              missLimit := (s.store.active.chans.get c).missLimit : MonitorChannel } = s.monitor.chans.get c)
    ∧ s.supervisor.settings s.store.active = s.supervisor

/-- R82, R101, R136, R144: every block holds the settings of the active profile; until the load ends every output is
DISABLED, the monitor is STOPPED and no commit is in flight, and after it every output is ENABLED and the monitor is
not STOPPED. -/
abbrev DeliveredInv (s : State) : Prop :=
  PortsInv s ∧ settingsDelivered s
    ∧ (∀ c, (s.outputs.chans.get c).outputState = .disabled ↔ s.store.loadInProgress = true)
    ∧ (s.monitor.state = .stopped ↔ s.store.loadInProgress = true)
    ∧ (s.store.loadInProgress = true → s.store.commit = none)

/-- R87, over the delivered settings: a NORMAL ENABLED channel's target is its top value, or its rest value with none,
while it is not quiesced; a DISABLED channel has no top value. -/
abbrev TargetsInv (s : State) : Prop :=
  DeliveredInv s
    ∧ (∀ c, (s.outputs.chans.get c).outputState = .disabled → (s.outputs.chans.get c).topValue = none)
    ∧ ∀ c, (s.outputs.chans.get c).outputState = .enabled → (s.outputs.chans.get c).condition = .normal →
        s.outputs.quiesced = false →
        (s.outputs.chans.get c).target = (s.outputs.chans.get c).topValue.getD (s.outputs.chans.get c).rest

/-! ## The form of requests, by byte positions (R164 to R166) -/

/-- Byte `i` of a request, counted from the code at 0. -/
abbrev octet (r : List Byte) (i : Nat) : Nat := (r.getD i 0#8).toNat

/-- Bytes `i` and `i + 1` of a request as one number, most significant first (R165). -/
abbrev octets (r : List Byte) (i : Nat) : Nat := 256 * octet r i + octet r (i + 1)

/-- R164: the length suits the code. -/
def RequestCode.lengthHolds (k : RequestCode) (r : List Byte) : Prop :=
  match k with
  | .openSession => r.length = 8
  | .closeSession => r.length = 3
  | .keepalive => r.length = 3
  | .claim => 11 ≤ r.length ∧ r.length = 11 + 3 * octet r 10
  | .set => 6 ≤ r.length ∧ r.length = 6 + 3 * octet r 5
  | .setIf => r.length = 10
  | .renew => r.length = 6 ∨ r.length = 8
  | .release => r.length = 5
  | .transfer => r.length = 8
  | .revoke => r.length = 5
  | .fetch => r.length = 3
  | .queryClaim => r.length = 5
  | .queryChannel => r.length = 4
  | .queryDevice => r.length = 3
  | .clearFault => r.length = 4
  | .resume => r.length = 3
  | .profileRead => r.length = 6
  | .profileStage => r.length = 7
  | .profileCommit => r.length = 3
  | .profileDiscard => r.length = 3

/-- R166: 1 to 8 pairs from byte `i` on, each channel 0 to 47 and each value 0 to 1023, no channel twice. -/
def pairsHold (r : List Byte) (i n : Nat) : Prop :=
  1 ≤ n ∧ n ≤ 8 ∧ (∀ j, j < n → octet r (i + 3 * j) ≤ 47 ∧ octets r (i + 3 * j + 1) ≤ 1023)
    ∧ ∀ k, k < n → ∀ j, j < k → octet r (i + 3 * j) ≠ octet r (i + 3 * k)

/-- R166: every field has its form. -/
def RequestCode.formHolds (k : RequestCode) (r : List Byte) : Prop :=
  match k with
  | .openSession => octet r 3 ≤ 1 ∧ 10 ≤ octets r 6
  | .closeSession => True
  | .keepalive => True
  | .claim => octet r 3 ≤ 15 ∧ octet r 4 ≤ 1 ∧ 1 ≤ octets r 5 ∧ octet r 7 ≤ 1 ∧ pairsHold r 11 (octet r 10)
  | .set => pairsHold r 6 (octet r 5)
  | .setIf => octet r 5 ≤ 47 ∧ octets r 6 ≤ 1023 ∧ octets r 8 ≤ 1023
  | .renew => r.length = 8 → 1 ≤ octets r 6
  | .release => True
  | .transfer => True
  | .revoke => True
  | .fetch => True
  | .queryClaim => True
  | .queryChannel => octet r 3 ≤ 47
  | .queryDevice => True
  | .clearFault => octet r 3 ≤ 47
  | .resume => True
  | .profileRead => octet r 3 ≤ 1 ∧ octet r 5 ≤ 47
  | .profileStage => octet r 4 ≤ 47
  | .profileCommit => True
  | .profileDiscard => True

/-- R165: the pairs read from byte `i` on. -/
abbrev pairsRead (r : List Byte) (i n : Nat) (qs : List Pair) : Prop :=
  qs.map (fun pr => (pr.chan.val, pr.value))
    = (List.range n).map fun j => (octet r (i + 3 * j), octets r (i + 3 * j + 1))

/-! ## Terms of the statements about requests -/

/-- The result by which the form of a request is refused, if it is (R163 steps 2 and 3). -/
def refusalOf {α : Type} : Except Result α → Option Result
  | .ok _ => none
  | .error why => some why

/-- R163 steps 2 and 3: the result by which a request of code `k` is refused before it reaches a session. -/
def RequestCode.formRefusal (k : RequestCode) (r : List Byte) : Option Result :=
  match k with
  | .openSession => refusalOf (decodeOpen r)
  | .closeSession => refusalOf (decodeNone r)
  | .keepalive => refusalOf (decodeNone r)
  | .claim => refusalOf (decodeClaim r)
  | .set => refusalOf (decodeSet r)
  | .setIf => refusalOf (decodeSetIf r)
  | .renew => refusalOf (decodeRenew r)
  | .release => refusalOf (decodeHandle r)
  | .transfer => refusalOf (decodeTransfer r)
  | .revoke => refusalOf (decodeHandle r)
  | .fetch => refusalOf (decodeNone r)
  | .queryClaim => refusalOf (decodeHandle r)
  | .queryChannel => refusalOf (decodeChannel r)
  | .queryDevice => refusalOf (decodeNone r)
  | .clearFault => refusalOf (decodeChannel r)
  | .resume => refusalOf (decodeNone r)
  | .profileRead => refusalOf (decodeProfileRead r)
  | .profileStage => refusalOf (decodeProfileStage r)
  | .profileCommit => refusalOf (decodeNone r)
  | .profileDiscard => refusalOf (decodeNone r)

/-- R163, R58: port `p` holds the unanswered request `r` of code `k`, whose handle names the session in `slot`, OPEN
with fields `info` and bound to port `p`. -/
abbrev State.asks (s : State) (p : PortId) (k : RequestCode) (r : List Byte) (slot : Slot) (info : SessionInfo) :
    Prop :=
  s.requestOf p k.byte = some r ∧ s.sessions.named (handleAt r 1) = some slot
    ∧ s.sessions.info? slot = some info ∧ info.port = p

/-- R169, R174: from `s` to `t`, the one response with this code echo, result and payload is produced at port `p`, and
nothing else of either port changes. -/
abbrev answered (s t : State) (p : PortId) (code : Byte) (result : Result) (payload : List Byte) : Prop :=
  t.ports = s.ports.modify p fun q => { q with produced := some (code :: result.code :: payload) }

/-- R59: from `s` to `t`, the keepalive of the session in `slot` is reloaded and nothing else of the session table
changes. -/
abbrev reloaded (s t : State) (slot : Slot) (info : SessionInfo) : Prop :=
  t.sessions.recs.get slot = { s.sessions.recs.get slot with state := .opened { info with remaining := info.interval } }
    ∧ (∀ k, k ≠ slot → t.sessions.recs.get k = s.sessions.recs.get k)
    ∧ t.sessions.lapseList = s.sessions.lapseList

/-- A claim notice: a record and a reason. -/
abbrev Post := RecIdx × Reason

/-- R67: a reason joins an entry's reason set; the handle it holds is kept. -/
def Entry.join (why : Reason) : Entry → Entry
  | .claim h rs => .claim h (rs ||| why.mask)
  | .device k => .device k

/-- R67: the list after one notice: the record's entry joined where it stands, or else a new entry at the tail. -/
def posted (t : ClaimTable) (l : List Entry) (post : Post) : List Entry :=
  match l.findIdx? (Entry.isFor post.1) with
  | some n => l.modify n (Entry.join post.2)
  | none => l ++ [.claim (t.handle post.1) post.2.mask]

/-- R67, R69: the whole list of `slot` after the notices of an event, taken in order: those of its own records. -/
def told (t : ClaimTable) (posts : List Post) (slot : Slot) (l : List Entry) : List Entry :=
  (posts.filter fun q => t.ownerSlot q.1 == some slot).foldl (posted t) l

/-- R69: one reason posted for each of some records, in their order. -/
def postsOf (is : List RecIdx) (why : Reason) : List Post := is.map fun i => (i, why)

/-- R10: RESUMED for each record that came to a top from `s` to `t`, in the order of the channels listed. -/
def resumedPosts (s t : State) (cs : List Chan) : List Post :=
  postsOf ((cs.filter fun c => t.claims.top c != s.claims.top c).filterMap t.claims.top) .resumed

/-- R9: from `s` to `t`, each channel whose top changed gains one report, of its new top or its empty stack, and no
other report is sent. -/
abbrev topsReported (s t : State) : Prop :=
  ∀ c, t.transit.reports.get c = s.transit.reports.get c ++
    if t.claims.top c = s.claims.top c then []
    else
      match t.claims.top c with
      | some i => [.newTop (t.claims.handle i) (t.claims.valueOn i c)]
      | none => [.emptyStack]

/-- R173: `after` is what the decoder has read once the listed blocks are read in `s`: a block not read before gives its
items as they stand, and a block read before keeps what was read. -/
abbrev readsItems (s : State) (before after : DeviceReading) (reads : List DeviceBlock) : Prop :=
  let took : DeviceBlock → Bool → Prop := fun b unread => b ∈ reads ∧ unread = true
  (took .supervisor before.supervisor.isNone → after.supervisor = some (s.supervisor.state, s.supervisor.refPresent))
    ∧ (¬ took .supervisor before.supervisor.isNone → after.supervisor = before.supervisor)
    ∧ (took .outputStage before.quiesced.isNone → after.quiesced = some s.outputs.quiesced)
    ∧ (¬ took .outputStage before.quiesced.isNone → after.quiesced = before.quiesced)
    ∧ (took .claimTable before.freeRecords.isNone →
        after.freeRecords = some ((List.finRange 64).filter s.claims.isFree).length)
    ∧ (¬ took .claimTable before.freeRecords.isNone → after.freeRecords = before.freeRecords)
    ∧ (took .sessionTable before.openSessions.isNone →
        after.openSessions = some ((List.finRange 8).filter s.sessions.isOpen).length)
    ∧ (¬ took .sessionTable before.openSessions.isNone → after.openSessions = before.openSessions)
    ∧ (took .profileStore before.store.isNone → after.store = some
        ⟨s.store.active.generation, s.store.defaulted, s.store.commit.isSome, s.store.lastOutcome⟩)
    ∧ (¬ took .profileStore before.store.isNone → after.store = before.store)

/-- R173: from `s` to `t`, the QUERY_DEVICE in flight at port `p` has the listed blocks read, after those in `g`: with
every block read the response of its nine items is produced, else the reads are kept, and nothing else of the ports
changes. -/
abbrev deviceRead (s t : State) (p : PortId) (g : DeviceReading) (reads : List DeviceBlock) : Prop :=
  ∃ g', readsItems s g g' reads
    ∧ (∀ state present quiesced free sessions st,
        g' = ⟨some (state, present), some quiesced, some free, some sessions, some st⟩ →
        t.ports = s.ports.modify p fun q => { q with
          reading := none
          produced := some ([0x32#8, 0x00#8, BitVec.ofNat 8 state.code, if present then 1 else 0,
              if quiesced then 1 else 0, BitVec.ofNat 8 free, BitVec.ofNat 8 sessions]
            ++ be32 st.generation.toNat
            ++ [if st.defaulted then 1 else 0, if st.committing then 1 else 0, BitVec.ofNat 8 st.outcome.code]) })
    ∧ (g'.supervisor = none ∨ g'.quiesced = none ∨ g'.freeRecords = none ∨ g'.openSessions = none ∨ g'.store = none →
        t.ports = s.ports.modify p fun q => { q with reading := some g' })

/-- R104: `m` is the monitor after a search from `pos` over the channels of `s`. -/
abbrev foundBySearch (s : State) (pos : Chan) (m : Monitor) : Prop :=
  (∃ k : Chan, s.eligible (pos + k) = true ∧ (∀ j, j < k → s.eligible (pos + j) = false)
      ∧ m.state = .converting ⟨pos + k, (s.outputs.chans.get (pos + k)).output, false⟩ ∧ m.scanPos = pos + k + 1)
    ∨ ((∀ c, s.eligible c = false) ∧ m.state = .waiting ∧ m.scanPos = pos)

/-- R87: the value an ENABLED channel's target takes. -/
abbrev targetOf (s : State) (c : Chan) (topValue : Option Nat) : Nat :=
  if s.outputs.quiesced = true ∨ (s.outputs.chans.get c).condition = .faulted then (s.outputs.chans.get c).rest
  else topValue.getD (s.outputs.chans.get c).rest

/-- R88: `after` is `before` with its target at `v`: unchanged where it stood there, else stepped at rate 0, else
settled where its output stands there, else ramping. -/
abbrev movedTo (before after : Channel) (v : Nat) : Prop :=
  after.target = v
    ∧ (v = before.target → after.output = before.output ∧ after.rampState = before.rampState)
    ∧ (v ≠ before.target → before.rate = 0 → after.output = v ∧ after.rampState = .settled)
    ∧ (v ≠ before.target → before.rate ≠ 0 → after.output = before.output
        ∧ (v = before.output → after.rampState = .settled) ∧ (v ≠ before.output → after.rampState = .ramping))

/-- R107: from `s` to `t`, the conversion in flight is disturbed exactly if the output of its channel changed, and the
monitor is otherwise as it was. -/
abbrev disturbedByChange (s t : State) : Prop :=
  t.monitor.scanPos = s.monitor.scanPos ∧ t.monitor.chans = s.monitor.chans
    ∧ (∀ cv, s.monitor.state = .converting cv →
        t.monitor.state = .converting ⟨cv.chan, cv.outputAtStart,
          cv.disturbed || decide ((t.outputs.chans.get cv.chan).output ≠ (s.outputs.chans.get cv.chan).output)⟩)
    ∧ ((∀ cv, s.monitor.state ≠ .converting cv) → t.monitor.state = s.monitor.state)

/-- R68, R70: from `s` to `t`, a device notice is posted to every OPEN session and no other list changes. -/
abbrev toldEverySession (s t : State) (k : DeviceKind) : Prop :=
  ∀ slot, t.attention.get slot =
    if s.sessions.isOpen slot = true ∧ .device k ∉ s.attention.get slot then s.attention.get slot ++ [.device k]
    else s.attention.get slot

end Sys2Proof.Machine
end

