-- ==== Sys2Proof/Certificates/Slice0/Obligations.lean ====
section
/-! DEFINITION. What is to be proved of the model, for all states and operands. -/

section

open Sys2Proof Sys2Proof.Machine

/-! ## The step and the queue -/

/-- The command at the front of the queue is taken, with the rest of the queue left waiting. -/
def Obligations.StepRunsFrontCommand : Prop :=
  ∀ (c : Instr) (rest : List Instr) (s : State),
    step { s with pending := c :: rest } = exec c { s with pending := rest }

/-- The model's own choice (log entry 5): on an empty queue the part takes the event it owes itself, and with none owed
one period of its internal oscillator, nothing while RESETn is held low (log entry 17). The period advances the
carrier, whose 1023rd begins a carrier period in which each output is held as it stands; then, while ticks come from
internal periods, the divider, whose last hands one tick to each block; then the window, whose 512th is a window end
(their order is log entry 21). An ENABLED channel's pin is high for as many periods of the carrier as its held output
counts. -/
def Obligations.StepOnEmptyQueue : Prop :=
  (∀ (s : State) (c : Chan), outPin s c = true ↔ (s.outputs.chans.get c).outputState = .enabled
    ∧ s.outputs.carrier < (s.outputs.chans.get c).latched)
  ∧ ∀ s : State, s.pending = [] →
    (∀ c, s.dueEvent = some c → step s = exec c s)
    ∧ (s.dueEvent = none → s.resetHeld = true → step s = .next s)
    ∧ (s.dueEvent = none → s.resetHeld = false → ∃ carried counted t, step s = .next t
      ∧ carried = { s with outputs := { s.outputs with
          carrier := carried.outputs.carrier, chans := carried.outputs.chans } }
      ∧ (s.outputs.carrier + 1 < 1023 → carried.outputs.carrier = s.outputs.carrier + 1
          ∧ carried.outputs.chans = s.outputs.chans)
      ∧ (1023 ≤ s.outputs.carrier + 1 → carried.outputs.carrier = 0
          ∧ ∀ c, carried.outputs.chans.get c
              = { s.outputs.chans.get c with latched := (s.outputs.chans.get c).output })
      ∧ (let u := s.supervisor
         let counts : Prop := u.producing = true ∧ u.source = .internalPeriods
         (¬ counts → counted = carried)
         ∧ (counts → u.dividerCount + 1 < u.holdoverDivider →
              counted = { carried with supervisor := { u with dividerCount := u.dividerCount + 1 } })
         ∧ (counts → u.holdoverDivider ≤ u.dividerCount + 1 →
              counted = { carried with
                supervisor := { u with dividerCount := 0 }
                transit := { s.transit with ticks := {
                  claimTable := s.transit.ticks.claimTable + 1, sessionTable := s.transit.ticks.sessionTable + 1
                  outputStage := s.transit.ticks.outputStage + 1
                  readbackMonitor := s.transit.ticks.readbackMonitor + 1
                  supervisor := s.transit.ticks.supervisor + 1 } } }))
      ∧ (s.supervisor.windowPos + 1 < 512 →
          t = { counted with supervisor := { counted.supervisor with windowPos := s.supervisor.windowPos + 1 } })
      ∧ (512 ≤ s.supervisor.windowPos + 1 → exec .windowEnd counted = .next t))

/-- Every command answers a next state in every state, and none touches the queue. The model's choices: a command whose
event the state does not hold changes nothing and answers next (log entry 1), there is no fault and no refusal (log
entry 24), and the queue is the model's own (log entry 23). -/
def Obligations.CommandsAnswerAndKeepQueue : Prop :=
  ∀ (c : Instr) (s : State), ∃ t, exec c s = .next t ∧ t.pending = s.pending

/-! ## Device reset and the start-up load -/

/-- What device reset leaves, by the reset value the spec gives each record. -/
def Obligations.ResetValues : Prop :=
  (∀ p : PortId, let q := State.reset.ports.get p
    q.state = .starting ∧ q.inFlight = none ∧ q.waiting = none ∧ q.buffer = none ∧ q.dropped = false)
  ∧ (∀ slot, State.reset.sessions.recs.get slot = ⟨0#8, .closed⟩) ∧ State.reset.sessions.lapseList = []
  ∧ (∀ i, State.reset.claims.recs.get i = ⟨0#8, .free⟩) ∧ (∀ c, State.reset.claims.holders.get c = [])
  ∧ (∀ slot, State.reset.attention.get slot = []) ∧ (∀ p, attnAsserted State.reset p = false)
  ∧ (∀ p bytes bits, sdoPin State.reset p bytes bits = .undriven)
  ∧ (∀ c, let ch := State.reset.outputs.chans.get c
    ch.outputState = .disabled ∧ ch.condition = .normal ∧ ch.topValue = none ∧ ch.target = 0 ∧ ch.output = 0
      ∧ ch.rampState = .settled ∧ ch.rest = 0 ∧ ch.low = 0 ∧ ch.high = 1023 ∧ ch.rate = 0)
  ∧ State.reset.outputs.quiesced = false ∧ (∀ c, outPin State.reset c = false)
  ∧ State.reset.monitor.state = .stopped ∧ State.reset.monitor.scanPos = 0
  ∧ (∀ c, State.reset.monitor.chans.get c = ⟨0, false, 16, 3⟩)
  ∧ State.reset.supervisor = ⟨.starting, false, 0, 0, 0, none, .internalPeriods, 0, false, 1000, 8000, 2000⟩
  ∧ State.reset.store.active = ⟨1000, 8000, 2000, 15, 15, 0#32, .replicate ⟨0, 0, 1023, 0, 0, 16, 3⟩⟩
  ∧ State.reset.store.activeCopy = none ∧ State.reset.store.defaulted = false
  ∧ State.reset.store.loadInProgress = true ∧ State.reset.store.commit = none ∧ State.reset.store.lastOutcome = .none

/-- DEVICE_RESET returns everything to its reset value from every state, but for the nonvolatile copies. A copy changes
only if it is the target of the commit the reset cuts short (what its write had reached is an operand: log entry 13).
The model's choices: the queue is kept and the events in transit are dropped (log entry 23), the levels of the QUIESCEn
pin (16) and of the chip select pins (30) are kept, staging holds the defaults (3), the carrier and the held outputs
stand at 0 (17), and the record of SDO is empty (22). -/
def Obligations.DeviceResetReturnsEverything : Prop :=
  ∀ (reached : WriteReached) (flaws : List Flaw) (s : State), ∃ t, exec (.deviceReset reached flaws) s = .next t
    ∧ t = { State.reset with
        pending := s.pending, quiescenLow := s.quiescenLow
        ports := ⟨{ State.reset.ports.port0 with csLow := s.ports.port0.csLow },
          { State.reset.ports.port1 with csLow := s.ports.port1.csLow }⟩
        store := { State.reset.store with copyA := t.store.copyA, copyB := t.store.copyB } }
    ∧ ∀ copyId, (∀ cm ∈ s.store.commit, cm.target ≠ copyId) → t.store.copy copyId = s.store.copy copyId

/-- What a device reset leaves in the target of the commit it cuts short. During the erase, whatever bytes it had
reached and however they read: invalid, or its older contents, which it holds with the erase not begun; erased, it is
invalid. After n bytes of the write, however the bytes written read: invalid while the prescaler is unwritten, and
before the end of the write valid exactly when it reads as the commit image; at the end, when the memory took every
byte, the image. (What the write had reached is the command's operand, and within a part of R142 the bytes are written
in ascending order: log entry 13.) -/
def Obligations.CutCommitLeavesTarget : Prop :=
  ∀ (s : State) (cm : Commit), s.store.commit = some cm → cm.image.sound = true →
    (s.store.copy cm.target).length = 542 →
    (∀ kept flaws, ∃ t, exec (.deviceReset (.erasing kept) flaws) s = .next t
      ∧ (copyValid (t.store.copy cm.target) = false ∨ t.store.copy cm.target = s.store.copy cm.target))
    ∧ (∃ t, exec (.deviceReset (.erasing (List.replicate 542 false)) []) s = .next t
      ∧ t.store.copy cm.target = List.replicate 542 0xFF#8 ∧ copyValid (t.store.copy cm.target) = false)
    ∧ (∃ t, exec (.deviceReset (.erasing (List.replicate 542 true)) []) s = .next t
      ∧ t.store.copy cm.target = s.store.copy cm.target)
    ∧ ∀ n flaws, n ≤ 542 → ∃ t, exec (.deviceReset (.writing n) flaws) s = .next t
      ∧ (n ≤ 540 → copyValid (t.store.copy cm.target) = false)
      ∧ (n < 542 ∨ flaws = [] →
          (copyValid (t.store.copy cm.target) = true ↔ t.store.copy cm.target = copyImage cm.image))
      ∧ (n = 542 → flaws = [] → t.store.copy cm.target = copyImage cm.image)

/-- A copy written from any profile in range and consistent is 542 bytes, is valid, and reads back as that profile. -/
def Obligations.CopyHoldsItsProfile : Prop :=
  ∀ prof : Profile, prof.sound = true →
    (copyImage prof).length = 542 ∧ copyValid (copyImage prof) = true ∧ profileOf (copyImage prof) = prof

/-- RESET_END releases the reset and chooses among the two copies by their validity and, of two valid ones, by their
generations compared modulo 2^32. (After a failed commit whose target reads valid with a higher generation R145 says
that the previous profile is loaded; the model's choice is the comparison there too: log entry 28.) -/
def Obligations.ResetEndChoosesProfile : Prop :=
  ∀ s : State, s.resetHeld = true → ∃ t choice, exec .resetEnd s = .next t
    ∧ t = { s with resetHeld := false, store := { s.store with loadChoice := some choice } }
    ∧ (let a := s.store.copyA; let b := s.store.copyB
       let above := ((profileOf b).generation.toNat + 4294967296 - (profileOf a).generation.toNat) % 4294967296
       (copyValid a = true → copyValid b = false → choice = ⟨profileOf a, some .copyA, false⟩)
       ∧ (copyValid a = false → copyValid b = true → choice = ⟨profileOf b, some .copyB, false⟩)
       ∧ (copyValid a = true → copyValid b = true → 1 ≤ above ∧ above ≤ 2147483647 →
            choice = ⟨profileOf b, some .copyB, false⟩)
       ∧ (copyValid a = true → copyValid b = true → ¬ (1 ≤ above ∧ above ≤ 2147483647) →
            choice = ⟨profileOf a, some .copyA, false⟩)
       ∧ (copyValid a = false → copyValid b = false → choice = ⟨defaultProfile, none, true⟩))

/-- START_UP_LOAD_COMPLETION: the chosen profile becomes active and staged, every channel is ENABLED at its rest value
with QUIESCEn's level taken, the monitor starts, the supervisor begins producing in LOCKED or STARTING, and both ports
become READY with DROPPED kept; with no session OPEN no list changes. -/
def Obligations.LoadCompletionDelivers : Prop :=
  ∀ (s : State) (choice : LoadChoice), s.store.loadChoice = some choice →
    ∃ t, exec .startUpLoadCompletion s = .next t
    ∧ t = { s with outputs := t.outputs, monitor := t.monitor, supervisor := t.supervisor, store := t.store
                   ports := t.ports, attention := t.attention }
    ∧ t.store = { s.store with
        active := choice.profile, staging := choice.profile, activeCopy := choice.copy, defaulted := choice.defaulted
        loadInProgress := false, loadChoice := none }
    ∧ (∀ c, let k := choice.profile.chans.get c
        t.outputs.chans.get c = { s.outputs.chans.get c with
          outputState := .enabled, target := k.rest, output := k.rest, rampState := .settled
          rest := k.rest, low := k.low, high := k.high, rate := k.rate }
        ∧ t.monitor.chans.get c = ⟨0, k.enable == 1, k.tolerance, k.missLimit⟩)
    ∧ t.outputs.quiesced = s.quiescenLow ∧ t.outputs.carrier = s.outputs.carrier
    ∧ foundBySearch t s.monitor.scanPos t.monitor
    ∧ (let u := { s.supervisor with
          prescaler := choice.profile.prescaler, holdoverDivider := choice.profile.holdoverDivider
          holdoverPeriod := choice.profile.holdoverPeriod, dividerCount := 0, producing := true }
       (s.supervisor.refPresent = true → t.supervisor = { u with state := .locked, source := .refclkEdges })
       ∧ (s.supervisor.refPresent = false → t.supervisor = { u with
            state := .starting, source := .internalPeriods
            holdoverRemaining := some choice.profile.holdoverPeriod }))
    ∧ (∀ p, t.ports.get p = { s.ports.get p with state := .ready })
    ∧ ((∀ slot, s.sessions.isOpen slot = false) → t.attention = s.attention)

/-! ## Frames -/

/-- The fall of chip select, the first part of each of the five frames: the port fixes the state by which the frame
will be judged and forms the status byte, field by field. A transaction with no event in between is the fall and then
the rise with the same bytes, in each of the five. SDO is driven exactly while chip select is low and RESETn is not
held low; it carries the status byte first, most significant bit first, and then bit by bit what the port records at
the rise as shifted out, the bits after the last whole byte included. A transaction of no whole byte is no frame and
changes nothing. (With chip select still low from before the end of device reset the level is not given: log entry 30;
the record is the model's own: log entry 22.) -/
def Obligations.ChipSelectFallFormsStatus : Prop :=
  (∀ (s : State) (p : PortId) (bytes : List Byte) (bits : Fin 8) (frame : PortId → Transaction → Instr),
    frame ∈ [Instr.submit, Instr.collect, Instr.peek, Instr.clear, Instr.unknownFrame] →
    ∃ t, exec (frame p .fall) s = .next t
      ∧ exec (frame p (.whole bytes bits)) s = exec (frame p (.rise bytes bits)) t)
  ∧ (∀ (s : State) (p : PortId) (bytes : List Byte) (bits : Fin 8),
    sdoPin s p bytes bits = .undriven ↔ s.resetHeld = true ∨ (s.ports.get p).csLow = false)
  ∧ (∀ (s : State) (p : PortId) (tr : OpenTransaction) (bytes : List Byte) (bits : Fin 8),
    s.resetHeld = false → (s.ports.get p).csLow = true → (s.ports.get p).transaction = some tr →
    ∃ t, exec (.unknownFrame p (.rise bytes bits)) s = .next t
      ∧ (t.ports.get p).csLow = false ∧ (t.ports.get p).transaction = none
      ∧ (t.ports.get p).shiftedOut.length = bytes.length ∧ (t.ports.get p).shiftedBits.length = bits.val
      ∧ (∀ n (k : Fin 8), n < bytes.length →
          sdoPin s p (bytes.take n) k = .driven (((t.ports.get p).shiftedOut.getD n 0x00#8).getMsbD k.val))
      ∧ (∀ k : Fin 8, k < bits → sdoPin s p bytes k = .driven ((t.ports.get p).shiftedBits.getD k.val false))
      ∧ (bytes = [] → t = { s with ports := s.ports.modify p fun q => { q with
          csLow := false, transaction := none, shiftedOut := [], shiftedBits := (t.ports.get p).shiftedBits } }))
  ∧ ∀ (s : State) (p : PortId), s.resetHeld = false → (s.ports.get p).csLow = false →
    ∃ (t : State) (status : Byte),
      exec (.submit p .fall) s = .next t ∧ exec (.collect p .fall) s = .next t ∧ exec (.peek p .fall) s = .next t
      ∧ exec (.clear p .fall) s = .next t ∧ exec (.unknownFrame p .fall) s = .next t
      ∧ t = { s with ports := s.ports.modify p fun q => { q with
          csLow := true, transaction := some ⟨q.state, status⟩ } }
      ∧ (∀ k : Fin 8, sdoPin t p [] k = .driven (status.getMsbD k.val))
      ∧ status.extractLsb' 6 2 = (match (s.ports.get p).state with
          | .starting => 0#2 | .ready => 1#2 | .working => 2#2 | .answering => 3#2)
      ∧ status.getLsbD 5 = attnAsserted s p ∧ status.getLsbD 4 = (s.ports.get p).dropped
      ∧ status.extractLsb' 2 2 = (match s.supervisor.state with
          | .starting => 0#2 | .locked => 1#2 | .holdover => 2#2 | .lapsed => 3#2)
      ∧ status.getLsbD 1 = s.outputs.quiesced ∧ status.getLsbD 0 = s.store.defaulted

/-- The rise of chip select for a SUBMIT the port accepts: the request bytes become the request in flight, or the
waiting request behind an abandoned one; DROPPED is cleared and the state becomes WORKING. -/
def Obligations.SubmitAccepted : Prop :=
  ∀ (s : State) (p : PortId) (r : List Byte) (tr : OpenTransaction) (bits : Fin 8),
    (s.ports.get p).transaction = some tr → tr.stateAtFall = .ready → 2 ≤ r.length → r.length ≤ 60 →
    let frame := BitVec.ofNat 8 r.length :: r ++ [crc8 (BitVec.ofNat 8 r.length :: r)]
    ∃ t, exec (.submit p (.rise frame bits)) s = .next t
    ∧ t = { s with ports := s.ports.modify p fun q => { q with
        state := .working, dropped := false, csLow := false, transaction := none
        inFlight := if q.inFlight = none then some ⟨r, false⟩ else q.inFlight
        waiting := if q.inFlight = none then q.waiting else some r
        shiftedOut := tr.status :: List.replicate (r.length + 2) 0x00#8
        shiftedBits := List.replicate bits.val false } }

/-- A SUBMIT that is not accepted, because the port was not READY at the fall or because its length, its count of bytes
or its CRC is wrong, and a frame of unknown kind, set DROPPED and change nothing else; the next status byte shows it.
-/
def Obligations.DroppedFrameSetsDroppedOnly : Prop :=
  ∀ (s : State) (p : PortId) (tr : OpenTransaction) (bytes : List Byte) (bits : Fin 8),
    (s.ports.get p).transaction = some tr →
    let dropped := { s with ports := s.ports.modify p fun q => { q with
      dropped := true, csLow := false, transaction := none
      shiftedOut := tr.status :: List.replicate bytes.length 0x00#8
      shiftedBits := List.replicate bits.val false } }
    ((tr.stateAtFall ≠ .ready ∨ ¬ ∃ r : List Byte, 2 ≤ r.length ∧ r.length ≤ 60
        ∧ bytes = BitVec.ofNat 8 r.length :: r ++ [crc8 (BitVec.ofNat 8 r.length :: r)]) →
      exec (.submit p (.rise bytes bits)) s = .next dropped)
    ∧ (∀ k, k ∉ [0x01#8, 0x02#8, 0x03#8, 0x0F#8] →
        exec (.unknownFrame p (.rise (k :: bytes) bits)) s = .next dropped)
    ∧ (statusByte dropped p).getLsbD 4 = true

/-- COLLECT of a held response: the status byte, M, the response and its CRC are shifted out, then 0x00; the buffer is
freed exactly if all of them were, and DROPPED stays as it is. -/
def Obligations.CollectShiftsOutResponse : Prop :=
  ∀ (s : State) (p : PortId) (tr : OpenTransaction) (r bytes : List Byte) (bits : Fin 8),
    (s.ports.get p).transaction = some tr → tr.stateAtFall = .answering → (s.ports.get p).buffer = some r →
    let stream := [tr.status, BitVec.ofNat 8 r.length] ++ r ++ [crc8 (BitVec.ofNat 8 r.length :: r)]
      ++ List.replicate (bytes.length + 1) 0x00#8
    ∃ t, exec (.collect p (.rise bytes bits)) s = .next t
    ∧ t = { s with ports := s.ports.modify p fun q => { q with
        csLow := false, transaction := none
        buffer := if r.length + 3 ≤ bytes.length + 1 then none else some r
        state := if r.length + 3 ≤ bytes.length + 1 then .ready else q.state
        shiftedOut := stream.take (bytes.length + 1)
        shiftedBits := (List.range bits.val).map fun k => (stream.getD (bytes.length + 1) 0x00#8).getMsbD k } }

/-- COLLECT with the port STARTING, READY or WORKING at the fall: a length of 0 and its CRC, both 0x00, are shifted out
after the status byte, and 0x00 for every further byte; nothing changes, whatever the byte count, and whatever response
was produced meanwhile. -/
def Obligations.EmptyCollectChangesNothing : Prop :=
  crc8 [0x00#8] = 0x00#8
  ∧ ∀ (s : State) (p : PortId) (tr : OpenTransaction) (bytes : List Byte) (bits : Fin 8),
    (s.ports.get p).transaction = some tr → tr.stateAtFall ≠ .answering →
    ∃ t, exec (.collect p (.rise bytes bits)) s = .next t
    ∧ t = { s with ports := s.ports.modify p fun q => { q with
        csLow := false, transaction := none
        shiftedOut := tr.status :: List.replicate bytes.length 0x00#8
        shiftedBits := List.replicate bits.val false } }

/-- PEEK: the status byte and then 0x00 for every further byte are shifted out, and nothing changes in any port state.
-/
def Obligations.PeekChangesNothing : Prop :=
  ∀ (s : State) (p : PortId) (tr : OpenTransaction) (bytes : List Byte) (bits : Fin 8),
    (s.ports.get p).transaction = some tr →
    ∃ t, exec (.peek p (.rise bytes bits)) s = .next t
    ∧ t = { s with ports := s.ports.modify p fun q => { q with
        csLow := false, transaction := none
        shiftedOut := tr.status :: List.replicate bytes.length 0x00#8
        shiftedBits := List.replicate bits.val false } }

/-- CLEAR by the port state at the fall: in STARTING and READY it clears DROPPED alone, whatever the state since. In
WORKING and ANSWERING it clears DROPPED and leaves the port READY: the request in flight is abandoned, or the waiting
request discarded behind one abandoned, or the response held discarded. What counts is what the port holds at the rise:
a response buffered since the fall is discarded, and a waiting request handed on since the fall is abandoned (log entry
12). The decoder keeps a request handed to it, and nothing but the port changes. -/
def Obligations.ClearActsByState : Prop :=
  ∀ (s : State) (p : PortId) (tr : OpenTransaction) (bytes : List Byte) (bits : Fin 8),
    (s.ports.get p).transaction = some tr → tr.stateAtFall.mayFollow (s.ports.get p).state = true →
    (s.ports.get p).combined = true →
    ∃ t q, exec (.clear p (.rise bytes bits)) s = .next t
    ∧ t = { s with ports := s.ports.modify p fun _ => { q with
        dropped := false, csLow := false, transaction := none
        shiftedOut := tr.status :: List.replicate bytes.length 0x00#8
        shiftedBits := List.replicate bits.val false } }
    ∧ t.requestAt p = s.requestAt p
    ∧ (tr.stateAtFall = .starting ∨ tr.stateAtFall = .ready → q = s.ports.get p)
    ∧ (tr.stateAtFall = .working ∨ tr.stateAtFall = .answering →
        (∀ r, (s.ports.get p).state = .working → (s.ports.get p).inFlight = some ⟨r, false⟩ →
          q = { s.ports.get p with state := .ready, inFlight := some ⟨r, true⟩ })
        ∧ (∀ r, (s.ports.get p).state = .working → (s.ports.get p).inFlight = some ⟨r, true⟩ →
          q = { s.ports.get p with state := .ready, waiting := none })
        ∧ ((s.ports.get p).state = .answering → q = { s.ports.get p with state := .ready, buffer := none }))

/-- RESPONSE_PRODUCED: a response for a request not abandoned is buffered and the port becomes ANSWERING; one for an
abandoned request is discarded, and a waiting request becomes the request in flight. (A response travels from the
decoder to the port: log entry 8.) -/
def Obligations.ResponseProducedTaken : Prop :=
  ∀ (s : State) (p : PortId) (f : InFlight) (response : List Byte),
    (s.ports.get p).inFlight = some f → (s.ports.get p).produced = some response →
    ∃ t q, exec (.responseProduced p) s = .next t
    ∧ t = { s with ports := s.ports.modify p fun _ => { q with produced := none } }
    ∧ (f.abandoned = false →
        q = { s.ports.get p with inFlight := none, buffer := some response, state := .answering })
    ∧ (f.abandoned = true → (s.ports.get p).waiting = none → q = { s.ports.get p with inFlight := none })
    ∧ ∀ r, f.abandoned = true → (s.ports.get p).waiting = some r →
        q = { s.ports.get p with inFlight := some ⟨r, false⟩, waiting := none }

/-! ## The decoder and the session-handle check -/

/-- A request refused for its code, its length or the form of a field is answered so and changes nothing else: it
reaches no session, reloads no keepalive and closes no slot. The lengths and the forms are those of each code by byte
positions, and so are the parameters that a request of that form carries to its owner. -/
def Obligations.FormRefusalReachesNoSession : Prop :=
  (∀ (s : State) (p : PortId) (r : List Byte), s.requestAt p = some r → RequestCode.ofByte (r.getD 0 0#8) = none →
    ∃ t, exec (.unknownRequest p) s = .next t ∧ answered s t p (r.getD 0 0#8) .unknownRequest []
      ∧ t = { s with ports := t.ports })
  ∧ (∀ (s : State) (p : PortId) (k : RequestCode) (r : List Byte), s.requestOf p k.byte = some r →
    let refusedWith : Result → Prop := fun why =>
      ∃ t, exec (RequestCode.command p k) s = .next t ∧ answered s t p k.byte why [] ∧ t = { s with ports := t.ports }
    (¬ RequestCode.lengthHolds k r → RequestCode.formRefusal k r = some .badLength ∧ refusedWith .badLength)
    ∧ (RequestCode.lengthHolds k r → ¬ RequestCode.formHolds k r →
        RequestCode.formRefusal k r = some .badValue ∧ refusedWith .badValue)
    ∧ (RequestCode.lengthHolds k r → RequestCode.formHolds k r → RequestCode.formRefusal k r = none))
  ∧ ∀ r : List Byte,
    (∀ q, decodeOpen r = .ok q → q.role = (if octet r 3 = 0 then .control else .maintenance)
      ∧ q.tag.toNat = octets r 4 ∧ q.interval = octets r 6)
    ∧ (∀ q, decodeClaim r = .ok q → q.priority = octet r 3
      ∧ q.disposition = (if octet r 4 = 0 then .immediate else .standby) ∧ q.lease = octets r 5
      ∧ q.tag.map BitVec.toNat = (if octet r 7 = 0 then none else some (octets r 8))
      ∧ pairsRead r 11 (octet r 10) q.pairs)
    ∧ (∀ q, decodeSet r = .ok q → q.handle = ⟨r.getD 3 0#8, r.getD 4 0#8⟩ ∧ pairsRead r 6 (octet r 5) q.pairs)
    ∧ (∀ q, decodeSetIf r = .ok q → q.handle = ⟨r.getD 3 0#8, r.getD 4 0#8⟩ ∧ q.chan.val = octet r 5
      ∧ q.expected = octets r 6 ∧ q.value = octets r 8)
    ∧ (∀ q, decodeRenew r = .ok q → q.handle = ⟨r.getD 3 0#8, r.getD 4 0#8⟩ ∧ q.epoch = r.getD 5 0#8
      ∧ q.newLength = (if r.length = 8 then some (octets r 6) else none))
    ∧ (∀ h, decodeHandle r = .ok h → h = ⟨r.getD 3 0#8, r.getD 4 0#8⟩)
    ∧ (∀ q, decodeTransfer r = .ok q → q.handle = ⟨r.getD 3 0#8, r.getD 4 0#8⟩ ∧ q.epoch = r.getD 5 0#8
      ∧ q.target = ⟨r.getD 6 0#8, r.getD 7 0#8⟩)
    ∧ (∀ c, decodeChannel r = .ok c → c.val = octet r 3)
    ∧ (∀ q, decodeProfileRead r = .ok q → q.source = (if octet r 3 = 0 then .active else .staging)
      ∧ q.fieldId = octet r 4 ∧ q.chan.val = octet r 5)
    ∧ ∀ q, decodeProfileStage r = .ok q → q.fieldId = octet r 3 ∧ q.chan.val = octet r 4 ∧ q.value = octets r 5

/-- The session-handle check and the role check, for every request but OPEN: no such session, or a CLOSED slot, is
NO_SESSION; a LAPSED slot is SESSION_LAPSED, whichever port asks, and becomes CLOSED; an OPEN session of the other port
is WRONG_PORT; a CONTROL session asking one of the four reserved requests is NOT_PERMITTED, its keepalive reloaded. -/
def Obligations.HandleAndRoleChecked : Prop :=
  ∀ (s : State) (p : PortId) (k : RequestCode) (r : List Byte), s.requestOf p k.byte = some r → k ≠ .openSession →
    RequestCode.formRefusal k r = none →
    ((s.sessions.named (handleAt r 1) = none
        ∨ (∃ slot, s.sessions.named (handleAt r 1) = some slot ∧ (s.sessions.recs.get slot).state = .closed)) →
      ∃ t, exec (RequestCode.command p k) s = .next t ∧ answered s t p k.byte .noSession []
        ∧ t = { s with ports := t.ports })
    ∧ (∀ slot, s.sessions.named (handleAt r 1) = some slot → (s.sessions.recs.get slot).state = .lapsed →
      ∃ t, exec (RequestCode.command p k) s = .next t ∧ answered s t p k.byte .sessionLapsed []
        ∧ t = { s with ports := t.ports, sessions := t.sessions }
        ∧ t.sessions.recs.get slot = { s.sessions.recs.get slot with state := .closed }
        ∧ (∀ j, j ≠ slot → t.sessions.recs.get j = s.sessions.recs.get j)
        ∧ t.sessions.lapseList = s.sessions.lapseList.erase slot)
    ∧ (∀ slot info, s.sessions.named (handleAt r 1) = some slot →
      (s.sessions.recs.get slot).state = .opened info → info.port ≠ p →
      ∃ t, exec (RequestCode.command p k) s = .next t ∧ answered s t p k.byte .wrongPort []
        ∧ t = { s with ports := t.ports })
    ∧ (∀ slot info, s.asks p k r slot info → info.role = .control →
      k ∈ [.revoke, .profileStage, .profileCommit, .profileDiscard] →
      ∃ t, exec (RequestCode.command p k) s = .next t ∧ answered s t p k.byte .notPermitted [] ∧ reloaded s t slot info
        ∧ t = { s with ports := t.ports, sessions := t.sessions })

/-! ## Sessions -/

/-- OPEN granted: the lowest CLOSED slot, or the earliest lapsed one when none is CLOSED, is opened with the next
generation; its list holds the device notices of its OPEN; the response gives the handle and the device's state. -/
def Obligations.OpenTakesSlot : Prop :=
  ∀ (s : State) (p : PortId) (r : List Byte) (q : OpenParams) (slot : Slot),
    s.requestOf p 0x01#8 = some r → decodeOpen r = .ok q →
    (∀ j, ∀ i ∈ s.sessions.info? j, ¬ (i.port = p ∧ i.tag = q.tag)) →
    (q.role = .maintenance → ∀ j, ∀ i ∈ s.sessions.info? j, i.role = .control) →
    (((s.sessions.recs.get slot).state = .closed ∧ ∀ j, j < slot → (s.sessions.recs.get j).state ≠ .closed)
      ∨ ((∀ j, (s.sessions.recs.get j).state ≠ .closed) ∧ s.sessions.lapseList.head? = some slot)) →
    ∃ t, exec (.openSession p) s = .next t
    ∧ t = { s with ports := t.ports, sessions := t.sessions, attention := t.attention }
    ∧ t.sessions.recs.get slot =
        ⟨(s.sessions.recs.get slot).gen + 1, .opened ⟨p, q.role, q.tag, q.interval, q.interval⟩⟩
    ∧ (∀ j, j ≠ slot → t.sessions.recs.get j = s.sessions.recs.get j)
    ∧ t.sessions.lapseList = s.sessions.lapseList.erase slot
    ∧ t.attention.get slot = (if s.supervisor.state = .locked then [] else [.device .timebase])
        ++ (if s.outputs.quiesced then [.device .quiesce] else [])
        ++ (if s.store.defaulted then [.device .profile] else [])
    ∧ (∀ j, j ≠ slot → t.attention.get j = s.attention.get j)
    ∧ answered s t p 0x01#8 .ok ([(s.sessions.recs.get slot).gen + 1, BitVec.ofNat 8 slot.val,
          BitVec.ofNat 8 (match p with | .port0 => s.store.active.ceiling0 | .port1 => s.store.active.ceiling1)]
        ++ be32 s.store.active.generation.toNat
        ++ [if s.store.defaulted then 1 else 0, BitVec.ofNat 8 s.supervisor.state.code,
            if s.outputs.quiesced then 1 else 0])

/-- OPEN refused, in order: a tag in use on the port, naming its holder; a MAINTENANCE session already OPEN; no slot
CLOSED and none lapsed. Nothing but the response changes. -/
def Obligations.OpenRefused : Prop :=
  ∀ (s : State) (p : PortId) (r : List Byte) (q : OpenParams),
    s.requestOf p 0x01#8 = some r → decodeOpen r = .ok q →
    (∀ j, ∀ i ∈ s.sessions.info? j, i.port = p → i.tag = q.tag →
      (∀ k, k < j → ∀ i' ∈ s.sessions.info? k, ¬ (i'.port = p ∧ i'.tag = q.tag)) →
      ∃ t, exec (.openSession p) s = .next t ∧ t = { s with ports := t.ports }
        ∧ answered s t p 0x01#8 .tagInUse [(s.sessions.recs.get j).gen, BitVec.ofNat 8 j.val])
    ∧ ((∀ j, ∀ i ∈ s.sessions.info? j, ¬ (i.port = p ∧ i.tag = q.tag)) → q.role = .maintenance →
      (∃ j, ∃ i ∈ s.sessions.info? j, i.role = .maintenance) →
      ∃ t, exec (.openSession p) s = .next t ∧ t = { s with ports := t.ports }
        ∧ answered s t p 0x01#8 .maintenanceHeld [])
    ∧ ((∀ j, ∀ i ∈ s.sessions.info? j, ¬ (i.port = p ∧ i.tag = q.tag)) →
      (q.role = .maintenance → ∀ j, ∀ i ∈ s.sessions.info? j, i.role = .control) →
      (∀ j, (s.sessions.recs.get j).state ≠ .closed) → s.sessions.lapseList = [] →
      ∃ t, exec (.openSession p) s = .next t ∧ t = { s with ports := t.ports }
        ∧ answered s t p 0x01#8 .sessionsExhausted [])

/-- CLOSE ends the session: every record it owns becomes FREE and leaves its stacks, changed tops are reported, its
list is emptied, staging is reset for a MAINTENANCE session, and the slot is CLOSED with its generation kept. Every
other list is as RESUMED for each new top, in ascending channel order, leaves it. -/
def Obligations.CloseEndsSession : Prop :=
  ∀ (s : State) (p : PortId) (r : List Byte) (slot : Slot) (info : SessionInfo),
    s.asks p .closeSession r slot info → r.length = 3 → StacksInv s → OwnersInv s →
    ∃ t, exec (.closeSession p) s = .next t ∧ answered s t p 0x02#8 .ok []
    ∧ t = { s with ports := t.ports, sessions := t.sessions, claims := t.claims, attention := t.attention
                   store := t.store, transit := { s.transit with reports := t.transit.reports } }
    ∧ t.sessions.recs.get slot = { s.sessions.recs.get slot with state := .closed }
    ∧ (∀ j, j ≠ slot → t.sessions.recs.get j = s.sessions.recs.get j)
    ∧ t.sessions.lapseList = s.sessions.lapseList
    ∧ (∀ i, t.claims.recs.get i =
        if s.claims.ownerSlot i = some slot then { s.claims.recs.get i with state := .free } else s.claims.recs.get i)
    ∧ (∀ c, t.claims.holders.get c =
        (s.claims.holders.get c).filter fun i => s.claims.ownerSlot i != some slot)
    ∧ topsReported s t
    ∧ t.attention.get slot = []
    ∧ (∀ j, j ≠ slot →
        t.attention.get j = told t.claims (resumedPosts s t (List.finRange 48)) j (s.attention.get j))
    ∧ t.store = { s.store with
        staging := if info.role = .maintenance then s.store.active else s.store.staging }

/-! ## Claims -/

/-- CLAIM granted: the lowest FREE record is filled from the request and stands, on every listed stack, below the
records of higher priority and above the others; new tops are reported, each list is as PREEMPTED for each displaced
top, in the order of the channel list, leaves it, and the response gives the handle, epoch 0 and the standing, DRIVING
for IMMEDIATE. -/
def Obligations.ClaimGranted : Prop :=
  ∀ (s : State) (p : PortId) (r : List Byte) (slot : Slot) (info : SessionInfo) (q : ClaimParams) (i : RecIdx),
    s.asks p .claim r slot info → decodeClaim r = .ok q → StacksInv s →
    s.supervisor.state = .locked ∨ s.supervisor.state = .holdover → s.outputs.quiesced = false →
    s.store.commit = none → q.priority ≤ s.store.active.ceiling p →
    s.claims.ownedCount (s.sessions.idOf slot) < 16 →
    s.claims.isFree i = true → (∀ j, j < i → s.claims.isFree j = false) →
    (∀ pr ∈ q.pairs, (s.outputs.chans.get pr.chan).condition = .normal ∧ s.store.active.withinLimits pr = true
      ∧ (∀ j ∈ s.claims.holders.get pr.chan, s.claims.priority j ≠ q.priority)
      ∧ (s.claims.holders.get pr.chan).length < 4
      ∧ (q.disposition = .immediate → ∀ j ∈ s.claims.top pr.chan, s.claims.priority j ≤ q.priority)) →
    ∃ t, exec (.claim p) s = .next t ∧ reloaded s t slot info
    ∧ t = { s with ports := t.ports, sessions := t.sessions, claims := t.claims, attention := t.attention
                   transit := { s.transit with reports := t.transit.reports } }
    ∧ t.claims.recs.get i = ⟨(s.claims.recs.get i).gen + 1,
        .live ⟨s.sessions.idOf slot, q.priority, q.pairs, q.lease, q.lease, 0#8, q.tag⟩⟩
    ∧ (∀ j, j ≠ i → t.claims.recs.get j = s.claims.recs.get j)
    ∧ (∀ c, c ∉ q.pairs.map Pair.chan → t.claims.holders.get c = s.claims.holders.get c)
    ∧ (∀ c ∈ q.pairs.map Pair.chan, ∃ above below, s.claims.holders.get c = above ++ below
        ∧ t.claims.holders.get c = above ++ i :: below
        ∧ (∀ j ∈ above, q.priority < s.claims.priority j) ∧ ∀ j ∈ below, s.claims.priority j < q.priority)
    ∧ topsReported s t
    ∧ (let displaced := ((q.pairs.map Pair.chan).filter fun c => t.claims.top c != s.claims.top c).filterMap
         s.claims.top
       ∀ k, t.attention.get k = told t.claims (postsOf displaced .preempted) k (s.attention.get k))
    ∧ (q.disposition = .immediate → t.claims.standing i (q.pairs.map Pair.chan) = .driving)
    ∧ answered s t p 0x10#8 .ok [(s.claims.recs.get i).gen + 1, BitVec.ofNat 8 i.val, 0x00#8,
        BitVec.ofNat 8 (t.claims.standing i (q.pairs.map Pair.chan)).code]

/-- CLAIM refused: the first failing check on the device and the session answers; with none failing, the first failing
check on the first failing pair answers and names its channel. Nothing but the keepalive changes. -/
def Obligations.ClaimRefusedInOrder : Prop :=
  ∀ (s : State) (p : PortId) (r : List Byte) (slot : Slot) (info : SessionInfo) (q : ClaimParams),
    s.asks p .claim r slot info → decodeClaim r = .ok q →
    let deviceChecks : List (Bool × Result) :=
      [(s.supervisor.state == .starting || s.supervisor.state == .lapsed, .timebase), (s.outputs.quiesced, .quiesced),
       (s.store.commit.isSome, .committing), (decide (s.store.active.ceiling p < q.priority), .priorityCeiling),
       (decide (16 ≤ s.claims.ownedCount (s.sessions.idOf slot)), .sessionFull),
       (decide (∀ i, s.claims.isFree i = false), .poolEmpty)]
    let pairChecks : Pair → List (Bool × Result) := fun pr =>
      [((s.outputs.chans.get pr.chan).condition == .faulted, .channelFaulted),
       (!s.store.active.withinLimits pr, .outOfLimits),
       ((s.claims.holders.get pr.chan).any (fun j => s.claims.priority j == q.priority), .priorityTaken),
       (decide (4 ≤ (s.claims.holders.get pr.chan).length), .stackFull),
       (q.disposition == .immediate
          && (s.claims.top pr.chan).any (fun j => decide (q.priority < s.claims.priority j)), .notTop)]
    (∀ why, (deviceChecks.find? fun x => x.1).map (fun x => x.2) = some why →
      ∃ t, exec (.claim p) s = .next t ∧ t = { s with ports := t.ports, sessions := t.sessions }
        ∧ reloaded s t slot info ∧ answered s t p 0x10#8 why [])
    ∧ ∀ before pr after why, deviceChecks.find? (fun x => x.1) = none → q.pairs = before ++ pr :: after →
      (∀ pr' ∈ before, (pairChecks pr').find? (fun x => x.1) = none) →
      ((pairChecks pr).find? fun x => x.1).map (fun x => x.2) = some why →
      ∃ t, exec (.claim p) s = .next t ∧ t = { s with ports := t.ports, sessions := t.sessions }
        ∧ reloaded s t slot info ∧ answered s t p 0x10#8 why [BitVec.ofNat 8 pr.chan.val]

/-- SET: each named channel's value is stored, every other value and field kept; a value report goes to each named
channel the claim tops; no stack, list or lease changes. A pair that is no member or outside the limits refuses the
request and names its channel. -/
def Obligations.SetStoresValues : Prop :=
  ∀ (s : State) (p : PortId) (r : List Byte) (slot : Slot) (info : SessionInfo) (q : SetParams) (i : RecIdx)
    (b : ClaimBody), s.asks p .set r slot info → decodeSet r = .ok q → s.claims.resolve q.handle = some i →
    s.claims.live? i = some b → b.owner = s.sessions.idOf slot →
    ((∀ pr ∈ q.pairs, pr.chan ∈ b.chans ∧ s.store.active.withinLimits pr = true) →
      ∃ t b', exec (.set p) s = .next t ∧ answered s t p 0x11#8 .ok [] ∧ reloaded s t slot info
      ∧ t = { s with ports := t.ports, sessions := t.sessions
                     claims := { s.claims with recs := t.claims.recs }
                     transit := { s.transit with reports := t.transit.reports } }
      ∧ t.claims.recs.get i = { s.claims.recs.get i with state := .live b' } ∧ b' = { b with pairs := b'.pairs }
      ∧ b'.chans = b.chans ∧ (∀ pr ∈ q.pairs, b'.valueOn pr.chan = some pr.value)
      ∧ (∀ c, c ∉ q.pairs.map Pair.chan → b'.valueOn c = b.valueOn c)
      ∧ (∀ j, j ≠ i → t.claims.recs.get j = s.claims.recs.get j)
      ∧ (∀ pr ∈ q.pairs, t.transit.reports.get pr.chan = s.transit.reports.get pr.chan ++
          if s.claims.top pr.chan = some i then [.newValue pr.value] else [])
      ∧ ∀ c, c ∉ q.pairs.map Pair.chan → t.transit.reports.get c = s.transit.reports.get c)
    ∧ ∀ before pr after, q.pairs = before ++ pr :: after →
      (∀ pr' ∈ before, pr'.chan ∈ b.chans ∧ s.store.active.withinLimits pr' = true) →
      (pr.chan ∉ b.chans ∨ s.store.active.withinLimits pr = false) →
      ∃ t, exec (.set p) s = .next t ∧ t = { s with ports := t.ports, sessions := t.sessions }
        ∧ reloaded s t slot info
        ∧ answered s t p 0x11#8 (if pr.chan ∉ b.chans then .notMember else .outOfLimits) [BitVec.ofNat 8 pr.chan.val]

/-- SET_IF: a channel the claim does not list is NOT_MEMBER, and then a value outside the limits OUT_OF_LIMITS, each
naming the channel. Where the stored value is the expected one, the new value is stored and reported as a SET of one
pair would; otherwise MISMATCH carries the stored value. A refusal changes nothing but the keepalive. -/
def Obligations.SetIfComparesAndStores : Prop :=
  ∀ (s : State) (p : PortId) (r : List Byte) (slot : Slot) (info : SessionInfo) (q : SetIfParams) (i : RecIdx)
    (b : ClaimBody), s.asks p .setIf r slot info → decodeSetIf r = .ok q →
    s.claims.resolve q.handle = some i → s.claims.live? i = some b → b.owner = s.sessions.idOf slot →
    let refusedWith : Result → List Byte → Prop := fun why payload =>
      ∃ t, exec (.setIf p) s = .next t ∧ t = { s with ports := t.ports, sessions := t.sessions }
        ∧ reloaded s t slot info ∧ answered s t p 0x12#8 why payload
    (q.chan ∉ b.chans → refusedWith .notMember [BitVec.ofNat 8 q.chan.val])
    ∧ (q.chan ∈ b.chans → s.store.active.withinLimits ⟨q.chan, q.value⟩ = false →
        refusedWith .outOfLimits [BitVec.ofNat 8 q.chan.val])
    ∧ ∀ stored, s.store.active.withinLimits ⟨q.chan, q.value⟩ = true → b.valueOn q.chan = some stored →
    (stored = q.expected →
      ∃ t b', exec (.setIf p) s = .next t ∧ answered s t p 0x12#8 .ok [] ∧ reloaded s t slot info
      ∧ t = { s with ports := t.ports, sessions := t.sessions
                     claims := { s.claims with recs := t.claims.recs }
                     transit := { s.transit with reports := t.transit.reports } }
      ∧ t.claims.recs.get i = { s.claims.recs.get i with state := .live b' } ∧ b' = { b with pairs := b'.pairs }
      ∧ b'.chans = b.chans ∧ b'.valueOn q.chan = some q.value
      ∧ (∀ c, c ≠ q.chan → b'.valueOn c = b.valueOn c ∧ t.transit.reports.get c = s.transit.reports.get c)
      ∧ (∀ j, j ≠ i → t.claims.recs.get j = s.claims.recs.get j)
      ∧ t.transit.reports.get q.chan = s.transit.reports.get q.chan ++
          if s.claims.top q.chan = some i then [.newValue q.value] else [])
    ∧ (stored ≠ q.expected → refusedWith .mismatch (be16 stored))

/-- RENEW with the record's epoch: the lease length is replaced where one is given, the remaining count reloaded to it,
the epoch advanced, and nothing else of any record, stack, list or report changes. With another epoch it is answered
STALE_EPOCH and the record is as it was. -/
def Obligations.RenewReloadsLease : Prop :=
  ∀ (s : State) (p : PortId) (r : List Byte) (slot : Slot) (info : SessionInfo) (q : RenewParams) (i : RecIdx)
    (b : ClaimBody), s.asks p .renew r slot info → decodeRenew r = .ok q → s.claims.resolve q.handle = some i →
    s.claims.live? i = some b → b.owner = s.sessions.idOf slot →
    (q.epoch = b.epoch → ∃ t length, exec (.renew p) s = .next t ∧ reloaded s t slot info
      ∧ length = (match q.newLength with | some l => l | none => b.leaseLength)
      ∧ t = { s with ports := t.ports, sessions := t.sessions, claims := { s.claims with recs := t.claims.recs } }
      ∧ t.claims.recs.get i = { s.claims.recs.get i with
          state := .live { b with leaseLength := length, remaining := length, epoch := b.epoch + 1 } }
      ∧ (∀ j, j ≠ i → t.claims.recs.get j = s.claims.recs.get j)
      ∧ answered s t p 0x13#8 .ok ([b.epoch + 1] ++ be16 length ++ be16 length))
    ∧ (q.epoch ≠ b.epoch → ∃ t, exec (.renew p) s = .next t ∧ reloaded s t slot info
      ∧ t = { s with ports := t.ports, sessions := t.sessions } ∧ answered s t p 0x13#8 .staleEpoch [b.epoch])

/-- RELEASE by the owner of a LIVE or RETIRED record: the record becomes FREE with its generation kept and leaves every
stack, its entry leaves the owner's list, changed tops are reported, and each list is then as RESUMED for each new top,
in the order of the record's channel list, leaves it. -/
def Obligations.ReleaseFreesRecord : Prop :=
  ∀ (s : State) (p : PortId) (r : List Byte) (slot : Slot) (info : SessionInfo) (h : WireHandle) (i : RecIdx)
    (b : ClaimBody), s.asks p .release r slot info → decodeHandle r = .ok h → StacksInv s → LeasesInv s →
    s.claims.resolve h = some i → s.claims.body? i = some b → b.owner = s.sessions.idOf slot →
    ∃ t, exec (.release p) s = .next t ∧ answered s t p 0x14#8 .ok [] ∧ reloaded s t slot info
    ∧ t = { s with ports := t.ports, sessions := t.sessions, claims := t.claims, attention := t.attention
                   transit := { s.transit with reports := t.transit.reports } }
    ∧ t.claims.recs.get i = { s.claims.recs.get i with state := .free }
    ∧ (∀ j, j ≠ i → t.claims.recs.get j = s.claims.recs.get j)
    ∧ (∀ c, t.claims.holders.get c = (s.claims.holders.get c).filter (· != i))
    ∧ topsReported s t
    ∧ ∀ k, t.attention.get k = told t.claims (resumedPosts s t b.chans) k
        (if k = slot then (s.attention.get k).filter (fun e => !e.isFor i) else s.attention.get k)

/-- TRANSFER: checked in order (epoch, own session, OPEN target, room, ceiling); accepted, it changes the record's
owner and nothing else of the claim table, takes the old owner's entry away and raises one with its reasons and ADOPTED
at the tail of the new owner's list. -/
def Obligations.TransferHandsOver : Prop :=
  ∀ (s : State) (p : PortId) (r : List Byte) (slot : Slot) (info : SessionInfo) (q : TransferParams) (i : RecIdx)
    (b : ClaimBody), s.asks p .transfer r slot info → decodeTransfer r = .ok q → s.claims.resolve q.handle = some i →
    s.claims.live? i = some b → b.owner = s.sessions.idOf slot →
    let refusedWith : Result → List Byte → Prop := fun why payload =>
      ∃ t, exec (.transfer p) s = .next t ∧ t = { s with ports := t.ports, sessions := t.sessions }
        ∧ reloaded s t slot info ∧ answered s t p 0x15#8 why payload
    (q.epoch ≠ b.epoch → refusedWith .staleEpoch [b.epoch])
    ∧ (q.epoch = b.epoch → s.sessions.named q.target = some slot → refusedWith .ok [])
    ∧ (q.epoch = b.epoch → (∀ k, s.sessions.named q.target = some k → s.sessions.isOpen k = false) →
        refusedWith .noSession [])
    ∧ ∀ k info', q.epoch = b.epoch → s.sessions.named q.target = some k → k ≠ slot →
      s.sessions.info? k = some info' →
      (16 ≤ s.claims.ownedCount (s.sessions.idOf k) → refusedWith .targetFull [])
      ∧ (s.claims.ownedCount (s.sessions.idOf k) < 16 → s.store.active.ceiling info'.port < b.priority →
          refusedWith .priorityCeiling [])
      ∧ (s.claims.ownedCount (s.sessions.idOf k) < 16 → b.priority ≤ s.store.active.ceiling info'.port →
          ListsInv s →
          ∃ t, exec (.transfer p) s = .next t ∧ answered s t p 0x15#8 .ok [] ∧ reloaded s t slot info
          ∧ t = { s with ports := t.ports, sessions := t.sessions, attention := t.attention
                         claims := { s.claims with recs := t.claims.recs } }
          ∧ t.claims.recs.get i = { s.claims.recs.get i with state := .live { b with owner := s.sessions.idOf k } }
          ∧ (∀ j, j ≠ i → t.claims.recs.get j = s.claims.recs.get j)
          ∧ t.attention.get slot = (s.attention.get slot).filter (fun e => !e.isFor i)
          ∧ t.attention.get k = s.attention.get k
              ++ [.claim (s.claims.handle i) (reasonsFor i (s.attention.get slot) ||| 0x80#8)]
          ∧ ∀ j, j ≠ slot → j ≠ k → t.attention.get j = s.attention.get j)

/-- REVOKE from the MAINTENANCE session: the LIVE record becomes RETIRED with reason REVOKED, every other field kept,
leaves every stack, and changed tops are reported. Each list is as these notices leave it: REVOKED for the record, then
RESUMED for each new top in the order of the record's channel list. -/
def Obligations.RevokeRetiresRecord : Prop :=
  ∀ (s : State) (p : PortId) (r : List Byte) (slot : Slot) (info : SessionInfo) (h : WireHandle) (i : RecIdx)
    (b : ClaimBody), s.asks p .revoke r slot info → info.role = .maintenance → decodeHandle r = .ok h →
    StacksInv s → LeasesInv s → s.claims.resolve h = some i → s.claims.live? i = some b →
    ∃ t, exec (.revoke p) s = .next t ∧ answered s t p 0x16#8 .ok [] ∧ reloaded s t slot info
    ∧ t = { s with ports := t.ports, sessions := t.sessions, claims := t.claims, attention := t.attention
                   transit := { s.transit with reports := t.transit.reports } }
    ∧ t.claims.recs.get i = { s.claims.recs.get i with state := .retired b .revoked }
    ∧ (∀ j, j ≠ i → t.claims.recs.get j = s.claims.recs.get j)
    ∧ (∀ c, t.claims.holders.get c = (s.claims.holders.get c).filter (· != i))
    ∧ topsReported s t
    ∧ ∀ k, t.attention.get k
        = told t.claims ((i, .revoked) :: resumedPosts s t b.chans) k (s.attention.get k)

/-- The handle checks of the claim requests: a handle that does not resolve is NO_CLAIM; a RETIRED record is RETIRED to
a request that needs a LIVE one; another session's record is NOT_OWNER to a request reserved to the owner. Only the
keepalive changes. -/
def Obligations.ClaimHandleChecked : Prop :=
  ∀ (s : State) (p : PortId) (k : RequestCode) (r : List Byte) (slot : Slot) (info : SessionInfo),
    s.asks p k r slot info → RequestCode.formRefusal k r = none →
    k ∈ [.set, .setIf, .renew, .release, .transfer, .revoke, .queryClaim] → (k = .revoke → info.role = .maintenance) →
    let refusedWith : Result → Prop := fun why =>
      ∃ t, exec (RequestCode.command p k) s = .next t ∧ t = { s with ports := t.ports, sessions := t.sessions }
        ∧ reloaded s t slot info ∧ answered s t p k.byte why []
    (s.claims.resolve (handleAt r 3) = none → refusedWith .noClaim)
    ∧ (∀ i b why, s.claims.resolve (handleAt r 3) = some i → (s.claims.recs.get i).state = .retired b why →
        k ∈ [.set, .setIf, .renew, .transfer, .revoke] → refusedWith .retired)
    ∧ (∀ i b, s.claims.resolve (handleAt r 3) = some i → s.claims.live? i = some b →
        b.owner ≠ s.sessions.idOf slot → k ∈ [.set, .setIf, .renew, .release, .transfer] → refusedWith .notOwner)
    ∧ (∀ i b, s.claims.resolve (handleAt r 3) = some i → s.claims.body? i = some b →
        b.owner ≠ s.sessions.idOf slot → k = .release → refusedWith .notOwner)

/-! ## The attention unit -/

/-- FETCH: an empty list is answered EMPTY; otherwise the head entry leaves the list and is reported, a claim entry
with its record's tag, state and standing or retire reason, freeing a RETIRED record, and a device entry with the
device's state as it stands. -/
def Obligations.FetchTakesHead : Prop :=
  ∀ (s : State) (p : PortId) (r : List Byte) (slot : Slot) (info : SessionInfo),
    s.asks p .fetch r slot info → r.length = 3 →
    (s.attention.get slot = [] → ∃ t, exec (.fetch p) s = .next t
      ∧ t = { s with ports := t.ports, sessions := t.sessions } ∧ reloaded s t slot info
      ∧ answered s t p 0x20#8 .empty [])
    ∧ ∀ e rest, s.attention.get slot = e :: rest → ∃ t, exec (.fetch p) s = .next t
      ∧ t = { s with ports := t.ports, sessions := t.sessions, attention := t.attention, claims := t.claims }
      ∧ reloaded s t slot info ∧ t.attention.get slot = rest
      ∧ (∀ j, j ≠ slot → t.attention.get j = s.attention.get j)
      ∧ (∀ h rs b, e = .claim h rs → (s.claims.recs.get h.index).state = .live b → t.claims = s.claims
          ∧ answered s t p 0x20#8 .ok ([0x00#8, BitVec.ofNat 8 rest.length, h.gen, BitVec.ofNat 8 h.index.val]
              ++ tagBytes b.tag ++ [rs, 0x01#8, BitVec.ofNat 8 (s.claims.standing h.index b.chans).code]))
      ∧ (∀ h rs b why, e = .claim h rs → (s.claims.recs.get h.index).state = .retired b why → StacksInv s →
          t.claims.recs.get h.index = { s.claims.recs.get h.index with state := .free }
          ∧ (∀ j, j ≠ h.index → t.claims.recs.get j = s.claims.recs.get j) ∧ t.claims.holders = s.claims.holders
          ∧ answered s t p 0x20#8 .ok ([0x00#8, BitVec.ofNat 8 rest.length, h.gen, BitVec.ofNat 8 h.index.val]
              ++ tagBytes b.tag ++ [rs, 0x02#8, BitVec.ofNat 8 why.code]))
      ∧ (e = .device .timebase → t.claims = s.claims ∧ answered s t p 0x20#8 .ok
          [0x01#8, BitVec.ofNat 8 rest.length, BitVec.ofNat 8 s.supervisor.state.code,
           if s.supervisor.refPresent then 1 else 0])
      ∧ (e = .device .quiesce → t.claims = s.claims ∧ answered s t p 0x20#8 .ok
          [0x02#8, BitVec.ofNat 8 rest.length, if s.outputs.quiesced then 1 else 0])
      ∧ (e = .device .profile → t.claims = s.claims ∧ answered s t p 0x20#8 .ok
          ([0x03#8, BitVec.ofNat 8 rest.length] ++ be32 s.store.active.generation.toNat
            ++ [if s.store.defaulted then 1 else 0, BitVec.ofNat 8 s.store.lastOutcome.code]))

/-! ## Requests that read -/

/-- KEEPALIVE, QUERY_CLAIM, QUERY_CHANNEL and PROFILE_READ report what stands and change nothing but the keepalive,
which each reloads. QUERY_DEVICE reloads it and then reads each block's items together, in one step or in several
between which the blocks change, and its response holds each item as it stood when read. (Which blocks a step reads is
the operand, and the reads wait in State: log entry 25. QUERY_CHANNEL shows the target as the output stage holds it,
with the report of an emptied stack still on its way too: log entry 31. The tag bytes of an absent tag are 0x0000 in
QUERY_CLAIM: log entry 32.) -/
def Obligations.QueriesReportAndChangeNothing : Prop :=
  ∀ (s : State) (p : PortId) (r : List Byte) (slot : Slot) (info : SessionInfo),
    let reports : Instr → Byte → List Byte → Prop := fun command code payload =>
      ∃ t, exec command s = .next t ∧ t = { s with ports := t.ports, sessions := t.sessions }
        ∧ reloaded s t slot info ∧ answered s t p code .ok payload
    (s.asks p .keepalive r slot info → r.length = 3 →
      reports (.keepalive p) 0x03#8 (be16 info.interval
        ++ [BitVec.ofNat 8 (s.claims.ownedCount (s.sessions.idOf slot)),
            BitVec.ofNat 8 (s.attention.get slot).length]))
    ∧ (∀ h i b, s.asks p .queryClaim r slot info → decodeHandle r = .ok h → s.claims.resolve h = some i →
      s.claims.body? i = some b →
      reports (.queryClaim p) 0x30#8 ([(s.claims.recs.get i).gen, BitVec.ofNat 8 i.val]
        ++ [if s.claims.live? i = some b then 0x01#8 else 0x02#8, b.owner.gen, BitVec.ofNat 8 b.owner.slot.val,
            BitVec.ofNat 8 b.priority]
        ++ tagBytes b.tag ++ be16 b.leaseLength ++ be16 b.remaining
        ++ [b.epoch, match (s.claims.recs.get i).state with
              | .retired _ why => BitVec.ofNat 8 why.code
              | _ => BitVec.ofNat 8 (s.claims.standing i b.chans).code,
            BitVec.ofNat 8 b.pairs.length]
        ++ b.pairs.flatMap fun q => BitVec.ofNat 8 q.chan.val :: be16 q.value))
    ∧ (∀ c, s.asks p .queryChannel r slot info → decodeChannel r = .ok c → StacksInv s →
      let ch := s.outputs.chans.get c
      reports (.queryChannel p) 0x31#8 ([BitVec.ofNat 8 c.val] ++ be16 ch.target ++ be16 ch.output
        ++ [if ch.rampState = .settled then 0x00#8 else 0x01#8, if ch.condition = .normal then 0x00#8 else 0x01#8]
        ++ be16 ch.low ++ be16 ch.high
        ++ [BitVec.ofNat 8 (s.monitor.chans.get c).missCount, BitVec.ofNat 8 (s.claims.holders.get c).length]
        ++ (s.claims.holders.get c).flatMap fun i =>
            match s.claims.live? i with
            | some b => [(s.claims.recs.get i).gen, BitVec.ofNat 8 i.val, b.owner.gen,
                BitVec.ofNat 8 b.owner.slot.val, BitVec.ofNat 8 b.priority] ++ be16 (s.claims.valueOn i c)
            | none => []))
    ∧ (∀ reads, s.asks p .queryDevice r slot info → r.length = 3 →
      ∃ t, exec (.queryDevice p reads) s = .next t ∧ t = { s with ports := t.ports, sessions := t.sessions }
        ∧ reloaded s t slot info ∧ deviceRead s t p ⟨none, none, none, none, none⟩ reads)
    ∧ (∀ reads g, (s.ports.get p).reading = some g →
      ∃ t, exec (.queryDevice p reads) s = .next t ∧ t = { s with ports := t.ports } ∧ deviceRead s t p g reads)
    ∧ (∀ q f, s.asks p .profileRead r slot info → decodeProfileRead r = .ok q → q.fieldId = f.id →
      reports (.profileRead p) 0x50#8 ([if q.source = .active then 0x00#8 else 0x01#8, BitVec.ofNat 8 q.fieldId,
          BitVec.ofNat 8 q.chan.val]
        ++ be32 ((if q.source = .active then s.store.active else s.store.staging).field f q.chan)))
    ∧ (∀ q, s.asks p .profileRead r slot info → decodeProfileRead r = .ok q → (∀ f, q.fieldId ≠ ProfileField.id f) →
      ∃ t, exec (.profileRead p) s = .next t ∧ t = { s with ports := t.ports, sessions := t.sessions }
        ∧ reloaded s t slot info ∧ answered s t p 0x50#8 .badValue [])

/-! ## Channel faults, RESUME and the rest profile -/

/-- CLEAR_FAULT: refused NOT_PERMITTED to one who is neither MAINTENANCE nor the owner of the top claim, then
NOT_FAULTED on a NORMAL channel; otherwise the channel becomes NORMAL, its miss count 0, its target is recomputed and
its output moves, a conversion of it in flight is disturbed if its output changed, and each list is as FAULT_CLEARED
for each claim on its stack, top to bottom, leaves it. (A report of the fault not yet taken by the claim table is taken
first, with its FAULT notices: log entry 10.) -/
def Obligations.ClearFaultRestoresChannel : Prop :=
  ∀ (s : State) (p : PortId) (r : List Byte) (slot : Slot) (info : SessionInfo) (c : Chan),
    s.asks p .clearFault r slot info → decodeChannel r = .ok c →
    let mayClear : Prop := info.role = .maintenance
      ∨ ∃ i ∈ s.claims.top c, ∃ b ∈ s.claims.body? i, b.owner = s.sessions.idOf slot
    let refusedWith : Result → Prop := fun why =>
      ∃ t, exec (.clearFault p) s = .next t ∧ t = { s with ports := t.ports, sessions := t.sessions }
        ∧ reloaded s t slot info ∧ answered s t p 0x40#8 why []
    (¬ mayClear → refusedWith .notPermitted)
    ∧ (mayClear → (s.outputs.chans.get c).condition = .normal → refusedWith .notFaulted)
    ∧ (mayClear → (s.outputs.chans.get c).condition = .faulted →
      ∃ t, exec (.clearFault p) s = .next t ∧ answered s t p 0x40#8 .ok [] ∧ reloaded s t slot info
      ∧ t = { s with ports := t.ports, sessions := t.sessions, monitor := t.monitor, attention := t.attention
                     outputs := { s.outputs with chans := t.outputs.chans }
                     transit := { s.transit with faultNotices := s.transit.faultNotices.erase c } }
      ∧ (∀ d, d ≠ c → t.outputs.chans.get d = s.outputs.chans.get d ∧ t.monitor.chans.get d = s.monitor.chans.get d)
      ∧ t.monitor.chans.get c = { s.monitor.chans.get c with missCount := 0 }
      ∧ (let ch := s.outputs.chans.get c
         let ch' := t.outputs.chans.get c
         ch' = { ch with condition := .normal, target := ch'.target, output := ch'.output, rampState := ch'.rampState }
         ∧ movedTo ch ch' (if s.outputs.quiesced then ch.rest else ch.topValue.getD ch.rest))
      ∧ disturbedByChange { s with monitor := { s.monitor with chans := t.monitor.chans } } t
      ∧ ∀ k, t.attention.get k = told s.claims
          ((if c ∈ s.transit.faultNotices then postsOf (s.claims.holders.get c) .fault else [])
            ++ postsOf (s.claims.holders.get c) .faultCleared) k (s.attention.get k))

/-- RESUME: with reference-present set, HOLDOVER and LAPSED become LOCKED with the divider restarted and every OPEN
session told TIMEBASE; in LOCKED it is answered OK with no change; with reference-present clear it is answered
NO_REFERENCE with no change. -/
def Obligations.ResumeReturnsToLocked : Prop :=
  ∀ (s : State) (p : PortId) (r : List Byte) (slot : Slot) (info : SessionInfo),
    s.asks p .resume r slot info → r.length = 3 →
    (s.supervisor.state = .holdover ∨ s.supervisor.state = .lapsed → s.supervisor.refPresent = true →
      ∃ t, exec (.resume p) s = .next t ∧ reloaded s t slot info ∧ answered s t p 0x41#8 .ok [0x01#8, 0x01#8]
      ∧ t = { s with
          ports := t.ports, sessions := t.sessions, attention := t.attention
          supervisor := { s.supervisor with
            state := .locked, holdoverRemaining := none, source := .refclkEdges, dividerCount := 0 } }
      ∧ toldEverySession s t .timebase)
    ∧ (s.supervisor.state = .locked → s.supervisor.refPresent = true →
      ∃ t, exec (.resume p) s = .next t ∧ reloaded s t slot info ∧ answered s t p 0x41#8 .ok [0x01#8, 0x01#8]
      ∧ t = { s with ports := t.ports, sessions := t.sessions })
    ∧ (s.supervisor.state ≠ .locked → s.supervisor.refPresent = false →
      ∃ t, exec (.resume p) s = .next t ∧ reloaded s t slot info
      ∧ answered s t p 0x41#8 .noReference [BitVec.ofNat 8 s.supervisor.state.code, 0x00#8]
      ∧ t = { s with ports := t.ports, sessions := t.sessions })

/-- PROFILE_STAGE from the MAINTENANCE session: an id outside the table, the generation, or a value outside the field's
range is BAD_VALUE and changes nothing; otherwise the named field of the staging profile takes the value and every
other field of it is kept. -/
def Obligations.ProfileStageSetsField : Prop :=
  ∀ (s : State) (p : PortId) (r : List Byte) (slot : Slot) (info : SessionInfo) (q : ProfileStageParams),
    s.asks p .profileStage r slot info → info.role = .maintenance → decodeProfileStage r = .ok q →
    let refusedBadValue : Prop :=
      ∃ t, exec (.profileStage p) s = .next t ∧ t = { s with ports := t.ports, sessions := t.sessions }
        ∧ reloaded s t slot info ∧ answered s t p 0x51#8 .badValue []
    ((∀ f, q.fieldId ≠ ProfileField.id f) → refusedBadValue)
    ∧ ∀ f, q.fieldId = ProfileField.id f →
      (f = .generation → refusedBadValue)
      ∧ (¬ (f.range.1 ≤ q.value ∧ q.value ≤ f.range.2) → refusedBadValue)
      ∧ (f ≠ .generation → f.range.1 ≤ q.value ∧ q.value ≤ f.range.2 →
        ∃ t, exec (.profileStage p) s = .next t ∧ answered s t p 0x51#8 .ok [] ∧ reloaded s t slot info
        ∧ t = { s with
            ports := t.ports, sessions := t.sessions, store := { s.store with staging := t.store.staging } }
        ∧ t.store.staging.field f q.chan = q.value
        ∧ (∀ f' c, f' ≠ f → t.store.staging.field f' c = s.store.staging.field f' c)
        ∧ ∀ c, 0x10 ≤ f.id → c ≠ q.chan → t.store.staging.field f c = s.store.staging.field f c)

/-- PROFILE_COMMIT from the MAINTENANCE session: refused COMMITTING, then CLAIMS_PRESENT, then INCONSISTENT with the
lowest channel out of order; otherwise a commit of the staging profile, at the next generation, into the copy that is
not active is in flight, and nothing else of the store changes. (The model's choice: the target copy's field keeps its
older contents until the end of the commit tells what the write had reached: log entry 13.) -/
def Obligations.ProfileCommitStartsCommit : Prop :=
  ∀ (s : State) (p : PortId) (r : List Byte) (slot : Slot) (info : SessionInfo),
    s.asks p .profileCommit r slot info → info.role = .maintenance → r.length = 3 →
    let refusedWith : Result → List Byte → Prop := fun why payload =>
      ∃ t, exec (.profileCommit p) s = .next t ∧ t = { s with ports := t.ports, sessions := t.sessions }
        ∧ reloaded s t slot info ∧ answered s t p 0x52#8 why payload
    let inOrder : Chan → Prop := fun c =>
      (s.store.staging.chans.get c).low ≤ (s.store.staging.chans.get c).rest
        ∧ (s.store.staging.chans.get c).rest ≤ (s.store.staging.chans.get c).high
    (s.store.commit ≠ none → refusedWith .committing [])
    ∧ (s.store.commit = none → (∃ i, (s.claims.recs.get i).state ≠ .free) → refusedWith .claimsPresent [])
    ∧ (∀ c, s.store.commit = none → (∀ i, (s.claims.recs.get i).state = .free) → ¬ inOrder c →
        (∀ d, d < c → inOrder d) → refusedWith .inconsistent [BitVec.ofNat 8 c.val])
    ∧ (s.store.commit = none → (∀ i, (s.claims.recs.get i).state = .free) → (∀ c, inOrder c) →
        ∃ t, exec (.profileCommit p) s = .next t ∧ answered s t p 0x52#8 .ok [] ∧ reloaded s t slot info
        ∧ t = { s with
            ports := t.ports, sessions := t.sessions
            store := { s.store with commit := some {
              target := if s.store.activeCopy = some .copyA then .copyB else .copyA
              image := { s.store.staging with generation := s.store.active.generation + 1 } } } })

/-- PROFILE_DISCARD: a CONTROL session is NOT_PERMITTED; from the MAINTENANCE session it is COMMITTING while a commit
is in flight, staging unchanged, and otherwise the staging profile becomes a copy of the active profile and the
response is OK. -/
def Obligations.ProfileDiscardResetsStaging : Prop :=
  ∀ (s : State) (p : PortId) (r : List Byte) (slot : Slot) (info : SessionInfo),
    s.asks p .profileDiscard r slot info → r.length = 3 →
    let refusedWith : Result → Prop := fun why =>
      ∃ t, exec (.profileDiscard p) s = .next t ∧ t = { s with ports := t.ports, sessions := t.sessions }
        ∧ reloaded s t slot info ∧ answered s t p 0x53#8 why []
    (info.role = .control → refusedWith .notPermitted)
    ∧ (info.role = .maintenance → s.store.commit ≠ none → refusedWith .committing)
    ∧ (info.role = .maintenance → s.store.commit = none →
        ∃ t, exec (.profileDiscard p) s = .next t ∧ answered s t p 0x53#8 .ok [] ∧ reloaded s t slot info
        ∧ t = { s with
            ports := t.ports, sessions := t.sessions, store := { s.store with staging := s.store.active } })

/-- COMMIT_COMPLETION: a target that reads back valid and equal to the image is activated: the store, every ENABLED
channel, the readback monitor and the supervisor take the new profile and every OPEN session is told PROFILE. A target
that does not is a FAILED outcome told to the MAINTENANCE session alone, with the active profile and every output as
they were. A memory that took every byte makes the verification pass for an image in range and consistent. (How the
write went is the command's operand: log entry 14. A channel whose fault report is still on its way is passed over by
the monitor's search: log entry 9. A channel not held at rest takes its top value if one still stands, else the new
rest value: log entry 29.) -/
def Obligations.CommitCompletionVerifies : Prop :=
  ∀ (s : State) (flaws : List Flaw) (order : ActivationOrder) (cm : Commit), s.store.commit = some cm →
    let written := applyFlaws flaws (copyImage cm.image)
    let verifies : Prop := copyValid written = true ∧ written.take 540 = cm.image.content
    let prof := cm.image
    (flaws = [] → prof.sound = true → verifies)
    ∧ (verifies → ∃ t, exec (.commitCompletion flaws order) s = .next t
      ∧ t = { s with outputs := { s.outputs with chans := t.outputs.chans }, monitor := t.monitor
                     supervisor := t.supervisor, store := t.store, attention := t.attention }
      ∧ t.store.copy cm.target = written
      ∧ (∀ copyId, copyId ≠ cm.target → t.store.copy copyId = s.store.copy copyId)
      ∧ t.store = { s.store with
          active := prof, staging := prof, activeCopy := some cm.target, defaulted := false, lastOutcome := .done
          commit := none, copyA := t.store.copyA, copyB := t.store.copyB }
      ∧ (∀ c, let k := prof.chans.get c
          let ch := s.outputs.chans.get c
          let ch' := t.outputs.chans.get c
          (ch.outputState = .disabled → ch' = ch)
          ∧ (ch.outputState = .enabled →
            ch' = { ch with rest := k.rest, low := k.low, high := k.high, rate := k.rate, target := ch'.target
                            output := ch'.output, rampState := ch'.rampState }
            ∧ (s.outputs.quiesced = true ∨ ch.condition = .faulted →
                ch'.target = k.rest ∧ ch'.output = k.rest ∧ ch'.rampState = .settled)
            ∧ (s.outputs.quiesced = false → ch.condition = .normal →
                ch'.target = ch.topValue.getD k.rest
                ∧ (k.rate = 0 → ch'.output = ch'.target ∧ ch'.rampState = .settled)
                ∧ (k.rate ≠ 0 → ch'.output = ch.output ∧ (ch'.rampState = .settled ↔ ch'.target = ch.output)))))
      ∧ (∀ c, let k := prof.chans.get c; t.monitor.chans.get c = ⟨0, k.enable == 1, k.tolerance, k.missLimit⟩)
      ∧ (∃ pos, ((∀ c, (prof.chans.get c).enable ≠ 1) → pos = 0)
          ∧ (∀ c, (prof.chans.get c).enable = 1 → (∀ d, d < c → (prof.chans.get d).enable ≠ 1) → pos = c)
          ∧ (order = .outputFirst → foundBySearch t pos t.monitor)
          ∧ (order = .monitorFirst → ∃ m, foundBySearch { t with outputs := s.outputs } pos m
              ∧ disturbedByChange { s with monitor := m } t))
      ∧ t.supervisor = { s.supervisor with
          prescaler := prof.prescaler, holdoverDivider := prof.holdoverDivider, holdoverPeriod := prof.holdoverPeriod
          holdoverRemaining := s.supervisor.holdoverRemaining.map fun n => min prof.holdoverPeriod n
          dividerCount := 0 }
      ∧ toldEverySession s t .profile)
    ∧ (¬ verifies → ∃ t, exec (.commitCompletion flaws order) s = .next t
      ∧ t = { s with store := t.store, attention := t.attention }
      ∧ t.store.copy cm.target = written
      ∧ (∀ copyId, copyId ≠ cm.target → t.store.copy copyId = s.store.copy copyId)
      ∧ t.store = { s.store with
          staging := s.store.active, lastOutcome := .failed, commit := none
          copyA := t.store.copyA, copyB := t.store.copyB }
      ∧ ∀ slot, t.attention.get slot =
          if (∃ i ∈ s.sessions.info? slot, i.role = .maintenance) ∧ .device .profile ∉ s.attention.get slot
          then s.attention.get slot ++ [.device .profile] else s.attention.get slot)

/-! ## The timebase -/

/-- WINDOW_END: the counts restart, the good run and reference-present follow the window; once ticks are produced,
STARTING becomes LOCKED at the window that sets reference-present, LOCKED becomes HOLDOVER at a window that is not
good, and every OPEN session is told TIMEBASE at those changes and where reference-present is set in HOLDOVER or
LAPSED. At the entry into HOLDOVER the supervisor has no earlier tick left to count down (log entry 27). (The command
is the event, whatever the window position: log entry 6.) -/
def Obligations.WindowEndJudgesReference : Prop :=
  ∀ s : State, s.resetHeld = false → s.supervisor.counted →
    ∃ t, exec .windowEnd s = .next t
    ∧ t = { s with
        supervisor := t.supervisor, attention := t.attention
        transit := { s.transit with
          ticks := { s.transit.ticks with supervisor := t.transit.ticks.supervisor } } }
    ∧ (let u := s.supervisor
       let good : Prop := u.edgeCount = 4
       let sets : Prop := good ∧ u.goodRun = 15
       t.supervisor.windowPos = 0 ∧ t.supervisor.edgeCount = 0
       ∧ (good → t.supervisor.goodRun = (if u.goodRun = 16 then 16 else u.goodRun + 1)
            ∧ (t.supervisor.refPresent = true ↔ u.refPresent = true ∨ u.goodRun = 15))
       ∧ (¬ good → t.supervisor.goodRun = 0 ∧ t.supervisor.refPresent = false)
       ∧ t.supervisor = { u with
            windowPos := 0, edgeCount := 0, goodRun := t.supervisor.goodRun, refPresent := t.supervisor.refPresent
            state := t.supervisor.state, holdoverRemaining := t.supervisor.holdoverRemaining
            source := t.supervisor.source, dividerCount := t.supervisor.dividerCount }
       ∧ (u.producing = true → u.state = .starting → sets → t.supervisor.state = .locked
            ∧ t.supervisor.holdoverRemaining = none ∧ t.supervisor.source = .refclkEdges
            ∧ t.supervisor.dividerCount = 0 ∧ toldEverySession s t .timebase)
       ∧ (u.producing = true → u.state = .locked → ¬ good → t.supervisor.state = .holdover
            ∧ t.supervisor.holdoverRemaining = some u.holdoverPeriod ∧ t.supervisor.source = .internalPeriods
            ∧ t.supervisor.dividerCount = 0 ∧ toldEverySession s t .timebase ∧ t.transit.ticks.supervisor = 0)
       ∧ (¬ (u.producing = true ∧ u.state = .locked ∧ ¬ good) →
            t.transit.ticks.supervisor = s.transit.ticks.supervisor)
       ∧ (¬ (u.producing = true ∧ (u.state = .starting ∧ sets ∨ u.state = .locked ∧ ¬ good)) →
            t.supervisor.state = u.state ∧ t.supervisor.holdoverRemaining = u.holdoverRemaining
            ∧ t.supervisor.source = u.source ∧ t.supervisor.dividerCount = u.dividerCount)
       ∧ (u.producing = true → u.state = .holdover ∨ u.state = .lapsed → sets → toldEverySession s t .timebase)
       ∧ (¬ (u.producing = true ∧ (u.state = .locked ∧ ¬ good ∨ u.state ≠ .locked ∧ sets)) →
            t.attention = s.attention))

/-- REFCLK_EDGE: the window's edge count rises, up to 4; while ticks come from REFCLK the divider counts the edge, and
the edge that reaches the prescaler hands one tick to each of the five blocks and restarts the count. (A tick handed
out waits for each block: log entry 7.) -/
def Obligations.RefclkEdgeCounts : Prop :=
  ∀ s : State, s.resetHeld = false →
    ∃ t, exec .refclkEdge s = .next t
    ∧ (let u := s.supervisor
       let counts : Prop := u.producing = true ∧ u.source = .refclkEdges
       let edges := if u.edgeCount < 4 then u.edgeCount + 1 else 4
       (¬ counts → t = { s with supervisor := { u with edgeCount := edges } })
       ∧ (counts → u.dividerCount + 1 < u.prescaler →
            t = { s with supervisor := { u with edgeCount := edges, dividerCount := u.dividerCount + 1 } })
       ∧ (counts → u.prescaler ≤ u.dividerCount + 1 →
            t = { s with
              supervisor := { u with edgeCount := edges, dividerCount := 0 }
              transit := { s.transit with ticks := {
                claimTable := s.transit.ticks.claimTable + 1, sessionTable := s.transit.ticks.sessionTable + 1
                outputStage := s.transit.ticks.outputStage + 1
                readbackMonitor := s.transit.ticks.readbackMonitor + 1
                supervisor := s.transit.ticks.supervisor + 1 } } }))

/-- TICK: with no tick outstanding, the divider restarts and one tick is handed to each block. A block that takes a
tick handed to it does its own part and nothing else: LIVE records lose one of more than one tick left, OPEN sessions
likewise, RAMPING outputs step toward their targets by at most their rate, a WAITING monitor searches, and the
countdown of more than one loses one. Several blocks in one TICK take theirs one after the other, in the order given.
(The command is the event, and each block takes its tick by itself: log entries 6 and 7. A channel whose fault report
is still on its way is passed over by the search: log entry 9.) -/
def Obligations.TickTakenByEachBlock : Prop :=
  ∀ s : State,
    (s.transit.ticks = ⟨0, 0, 0, 0, 0⟩ → s.supervisor.producing = true →
      exec (.tick []) s = .next { s with
        supervisor := { s.supervisor with dividerCount := 0 }
        transit := { s.transit with ticks := ⟨1, 1, 1, 1, 1⟩ } })
    ∧ (∀ b rest, s.transit.ticks ≠ ⟨0, 0, 0, 0, 0⟩ ∨ s.supervisor.producing = true →
      ∃ t, exec (.tick [b]) s = .next t
      ∧ (t.transit.ticks ≠ ⟨0, 0, 0, 0, 0⟩ → exec (.tick (b :: rest)) s = exec (.tick rest) t)
      ∧ (t.transit.ticks = ⟨0, 0, 0, 0, 0⟩ → exec (.tick (b :: rest)) s = .next t))
    ∧ (0 < s.transit.ticks.claimTable → (∀ i, ∀ b ∈ s.claims.live? i, 1 < b.remaining) →
      ∃ t, exec (.tick [.claimTable]) s = .next t
      ∧ t = { s with
          claims := { s.claims with recs := t.claims.recs }
          transit := { s.transit with ticks :=
            { s.transit.ticks with claimTable := s.transit.ticks.claimTable - 1 } } }
      ∧ ∀ i, t.claims.recs.get i = match (s.claims.recs.get i).state with
          | .live b => ⟨(s.claims.recs.get i).gen, .live { b with remaining := b.remaining - 1 }⟩
          | _ => s.claims.recs.get i)
    ∧ (0 < s.transit.ticks.sessionTable → (∀ slot, ∀ i ∈ s.sessions.info? slot, 1 < i.remaining) →
      ∃ t, exec (.tick [.sessionTable]) s = .next t
      ∧ t = { s with
          sessions := { s.sessions with recs := t.sessions.recs }
          transit := { s.transit with ticks :=
            { s.transit.ticks with sessionTable := s.transit.ticks.sessionTable - 1 } } }
      ∧ ∀ slot, t.sessions.recs.get slot = match (s.sessions.recs.get slot).state with
          | .opened i => ⟨(s.sessions.recs.get slot).gen, .opened { i with remaining := i.remaining - 1 }⟩
          | _ => s.sessions.recs.get slot)
    ∧ (0 < s.transit.ticks.outputStage →
      ∃ t, exec (.tick [.outputStage]) s = .next t
      ∧ t = { s with
          outputs := { s.outputs with chans := t.outputs.chans }, monitor := t.monitor
          transit := { s.transit with ticks :=
            { s.transit.ticks with outputStage := s.transit.ticks.outputStage - 1 } } }
      ∧ disturbedByChange s t
      ∧ ∀ c, let ch := s.outputs.chans.get c
          let ch' := t.outputs.chans.get c
          (¬ (ch.outputState = .enabled ∧ ch.rampState = .ramping) → ch' = ch)
          ∧ (ch.outputState = .enabled → ch.rampState = .ramping →
            ch' = { ch with output := ch'.output, rampState := ch'.rampState }
            ∧ (ch.output ≤ ch.target → ch'.output = ch.output + min ch.rate (ch.target - ch.output))
            ∧ (ch.target ≤ ch.output → ch'.output = ch.output - min ch.rate (ch.output - ch.target))
            ∧ (ch'.rampState = .settled ↔ ch'.output = ch.target)))
    ∧ (0 < s.transit.ticks.readbackMonitor →
      ∃ t, exec (.tick [.readbackMonitor]) s = .next t
      ∧ t = { s with
          monitor := t.monitor
          transit := { s.transit with ticks :=
            { s.transit.ticks with readbackMonitor := s.transit.ticks.readbackMonitor - 1 } } }
      ∧ t.monitor.chans = s.monitor.chans
      ∧ (s.monitor.state = .waiting → foundBySearch s s.monitor.scanPos t.monitor)
      ∧ (s.monitor.state ≠ .waiting → t.monitor = s.monitor))
    ∧ (0 < s.transit.ticks.supervisor → s.supervisor.holdoverRemaining ≠ some 0 →
      s.supervisor.holdoverRemaining ≠ some 1 →
      exec (.tick [.supervisor]) s = .next { s with
        supervisor := { s.supervisor with
          holdoverRemaining := s.supervisor.holdoverRemaining.map fun n => n - 1 }
        transit := { s.transit with ticks :=
          { s.transit.ticks with supervisor := s.transit.ticks.supervisor - 1 } } })

/-- LEASE_EXPIRY: at a tick handed to the claim table, the LIVE records whose last tick it is retire EXPIRED with 0
remaining and leave their stacks, the others lose one tick, and changed tops are reported. Each list is as these
notices leave it: EXPIRED for each expired record in ascending index order, then RESUMED for each new top in ascending
channel order. (The command takes the claim table's tick: log entry 7.) -/
def Obligations.LeaseExpiryRetiresRecords : Prop :=
  ∀ s : State, 0 < s.transit.ticks.claimTable → StacksInv s →
    ∃ t, exec .leaseExpiry s = .next t
    ∧ t = { s with
        claims := t.claims, attention := t.attention
        transit := { s.transit with
          reports := t.transit.reports
          ticks := { s.transit.ticks with claimTable := s.transit.ticks.claimTable - 1 } } }
    ∧ (∀ i, t.claims.recs.get i = ⟨(s.claims.recs.get i).gen, match (s.claims.recs.get i).state with
        | .live b => if b.remaining ≤ 1 then .retired { b with remaining := 0 } .expired
                     else .live { b with remaining := b.remaining - 1 }
        | st => st⟩)
    ∧ (∀ c, t.claims.holders.get c =
        (s.claims.holders.get c).filter fun i => (s.claims.live? i).any fun b => decide (1 < b.remaining))
    ∧ topsReported s t
    ∧ (let expired := (List.finRange 64).filter fun i => (s.claims.live? i).any fun b => decide (b.remaining ≤ 1)
       ∀ k, t.attention.get k
         = told t.claims (postsOf expired .expired ++ resumedPosts s t (List.finRange 48)) k (s.attention.get k))

/-- SESSION_LAPSE: at a tick handed to the session table, the OPEN sessions whose last tick it is become LAPSED and
join the lapse list in ascending slot order, their records become FREE and leave their stacks, their lists are emptied;
the other OPEN sessions lose one tick; staging is reset if the MAINTENANCE session lapsed. Each lapse in turn reports
the tops it changes and posts RESUMED for the new ones in ascending channel order, and each other list is as those
notices leave it. (The command takes the session table's tick: log entry 7.) -/
def Obligations.SessionLapseEndsSessions : Prop :=
  ∀ s : State, 0 < s.transit.ticks.sessionTable → StacksInv s → OwnersInv s →
    let lapses : Slot → Bool := fun slot => (s.sessions.info? slot).any fun i => decide (i.remaining ≤ 1)
    let lapsed := (List.finRange 8).filter lapses
    let stack : (Slot → Bool) → Chan → List RecIdx := fun gone c =>
      (s.claims.holders.get c).filter fun i => !(s.claims.ownerSlot i).any fun o => lapses o && gone o
    let topBefore : Slot → Chan → Option RecIdx := fun slot c => (stack (fun o => decide (o < slot)) c).head?
    let topAfter : Slot → Chan → Option RecIdx := fun slot c => (stack (fun o => decide (o ≤ slot)) c).head?
    let changed : Slot → Chan → Bool := fun slot c => topAfter slot c != topBefore slot c
    ∃ t, exec .sessionLapse s = .next t
    ∧ t = { s with
        sessions := t.sessions, claims := t.claims, attention := t.attention, store := t.store
        transit := { s.transit with
          reports := t.transit.reports
          ticks := { s.transit.ticks with sessionTable := s.transit.ticks.sessionTable - 1 } } }
    ∧ (∀ slot, t.sessions.recs.get slot = ⟨(s.sessions.recs.get slot).gen, match (s.sessions.recs.get slot).state with
        | .opened i => if i.remaining ≤ 1 then .lapsed else .opened { i with remaining := i.remaining - 1 }
        | st => st⟩)
    ∧ t.sessions.lapseList = s.sessions.lapseList ++ lapsed
    ∧ (∀ i, t.claims.recs.get i = if (s.claims.ownerSlot i).any lapses then { s.claims.recs.get i with state := .free }
        else s.claims.recs.get i)
    ∧ (∀ c, t.claims.holders.get c =
        (s.claims.holders.get c).filter fun i => !(s.claims.ownerSlot i).any lapses)
    ∧ (∀ c, t.transit.reports.get c = s.transit.reports.get c ++
        (lapsed.filter fun slot => changed slot c).map fun slot =>
          match topAfter slot c with
          | some i => .newTop (s.claims.handle i) (s.claims.valueOn i c)
          | none => .emptyStack)
    ∧ (∀ slot, lapses slot = true → t.attention.get slot = [])
    ∧ (let resumed := lapsed.flatMap fun slot =>
         ((List.finRange 48).filter (changed slot)).filterMap (topAfter slot)
       ∀ slot, lapses slot = false →
         t.attention.get slot = told s.claims (postsOf resumed .resumed) slot (s.attention.get slot))
    ∧ ((∀ slot, lapses slot = false) → t.claims = s.claims ∧ t.attention = s.attention
        ∧ t.transit.reports = s.transit.reports)
    ∧ t.store = { s.store with staging :=
        if (∃ slot, lapses slot = true ∧ ∃ i ∈ s.sessions.info? slot, i.role = .maintenance) then s.store.active
        else s.store.staging }

/-- LAPSED_ENTRY: at the tick that ends the countdown in STARTING or HOLDOVER, every LIVE record retires SWEPT with its
count kept, every stack empties and each that was not empty is reported so, and the state becomes LAPSED with no
countdown. Each list is as SWEPT for each record swept, in ascending index order, leaves it, with TIMEBASE behind for
every OPEN session that holds none. (The command takes the supervisor's tick: log entry 7.) -/
def Obligations.LapsedEntrySweepsClaims : Prop :=
  ∀ s : State, 0 < s.transit.ticks.supervisor → s.supervisor.state = .starting ∨ s.supervisor.state = .holdover →
    s.supervisor.holdoverRemaining = some 1 → StacksInv s →
    ∃ t, exec .lapsedEntry s = .next t
    ∧ t = { s with
        claims := t.claims, attention := t.attention
        supervisor := { s.supervisor with state := .lapsed, holdoverRemaining := none }
        transit := { s.transit with
          reports := t.transit.reports
          ticks := { s.transit.ticks with supervisor := s.transit.ticks.supervisor - 1 } } }
    ∧ (∀ i, t.claims.recs.get i = ⟨(s.claims.recs.get i).gen, match (s.claims.recs.get i).state with
        | .live b => .retired b .swept
        | st => st⟩)
    ∧ (∀ c, t.claims.holders.get c = [])
    ∧ (∀ c, t.transit.reports.get c =
        s.transit.reports.get c ++ if s.claims.holders.get c = [] then [] else [.emptyStack])
    ∧ (let swept := (List.finRange 64).filter fun i => (s.claims.live? i).isSome
       ∀ slot, t.attention.get slot =
         let l := told s.claims (postsOf swept .swept) slot (s.attention.get slot)
         if s.sessions.isOpen slot = true ∧ .device .timebase ∉ l then l ++ [.device .timebase] else l)

/-! ## Readback and outputs -/

/-- CONVERSION_COMPLETION: a disturbed reading changes no count; one within tolerance of the output at start sets the
miss count to 0; a miss raises it, and at the miss limit sets it to 0 and reports a fault; the monitor then searches.
An input below 0 V reads 0 and one above VREF reads 1023. (The reading is the operand, log entry 15; a channel whose
fault report is still on its way is passed over, log entry 9.) -/
def Obligations.ConversionCompletionJudgesReading : Prop :=
  ∀ (s : State) (cv : Conversion) (input : Int) (value : Nat), s.monitor.state = .converting cv →
    (input < 0 ∧ value = 0 ∨ (0 ≤ input ∧ input ≤ 1023 ∧ (value : Int) = input) ∨ 1023 < input ∧ value = 1023) →
    let mc := s.monitor.chans.get cv.chan
    let discarded : Prop := cv.disturbed = true ∨ (s.outputs.chans.get cv.chan).outputState = .disabled
      ∨ (s.outputs.chans.get cv.chan).condition = .faulted ∨ s.outputs.quiesced = true
    let within : Prop := value ≤ cv.outputAtStart + mc.tolerance ∧ cv.outputAtStart ≤ value + mc.tolerance
    ∃ t, exec (.conversionCompletion input) s = .next t
    ∧ t = { s with monitor := t.monitor, transit := { s.transit with faultReports := t.transit.faultReports } }
    ∧ (∀ c, c ≠ cv.chan → t.monitor.chans.get c = s.monitor.chans.get c)
    ∧ t.monitor.chans.get cv.chan = { mc with missCount := (t.monitor.chans.get cv.chan).missCount }
    ∧ (discarded → (t.monitor.chans.get cv.chan).missCount = mc.missCount
        ∧ t.transit.faultReports = s.transit.faultReports)
    ∧ (¬ discarded → within → (t.monitor.chans.get cv.chan).missCount = 0
        ∧ t.transit.faultReports = s.transit.faultReports)
    ∧ (¬ discarded → ¬ within → mc.missCount + 1 ≠ mc.missLimit →
        (t.monitor.chans.get cv.chan).missCount = mc.missCount + 1
        ∧ t.transit.faultReports = s.transit.faultReports)
    ∧ (¬ discarded → ¬ within → mc.missCount + 1 = mc.missLimit → (t.monitor.chans.get cv.chan).missCount = 0
        ∧ t.transit.faultReports = s.transit.faultReports ++ [cv.chan])
    ∧ foundBySearch t s.monitor.scanPos t.monitor

/-- CHANNEL_FAULT: a NORMAL channel becomes FAULTED with target and output stepped to its rest value, its top value
kept, and the claim table is sent a report; a FAULTED channel is as it was. No claim, stack or other channel changes.
(The report is one on its way: log entry 8.) -/
def Obligations.ChannelFaultStepsToRest : Prop :=
  ∀ (s : State) (c : Chan), c ∈ s.transit.faultReports → (s.outputs.chans.get c).outputState = .enabled →
    ∃ t, exec (.channelFault c) s = .next t
    ∧ t = { s with
        outputs := { s.outputs with chans := t.outputs.chans }, monitor := t.monitor
        transit := { s.transit with
          faultReports := s.transit.faultReports.erase c, faultNotices := t.transit.faultNotices } }
    ∧ (∀ d, d ≠ c → t.outputs.chans.get d = s.outputs.chans.get d)
    ∧ disturbedByChange s t
    ∧ (let ch := s.outputs.chans.get c
       (ch.condition = .normal →
          t.outputs.chans.get c = { ch with
            condition := .faulted, target := ch.rest, output := ch.rest, rampState := .settled }
          ∧ t.transit.faultNotices = s.transit.faultNotices ++ [c])
       ∧ (ch.condition = .faulted →
          t.outputs.chans.get c = ch ∧ t.transit.faultNotices = s.transit.faultNotices))

/-- FAULT_NOTICE: each list is as FAULT for each claim on the channel's stack, top to bottom, leaves it; no record or
stack changes. (The report is one on its way: log entry 8.) -/
def Obligations.FaultNoticeTellsStack : Prop :=
  ∀ (s : State) (c : Chan), c ∈ s.transit.faultNotices →
    ∃ t, exec (.faultNotice c) s = .next t
    ∧ t = { s with
        attention := t.attention
        transit := { s.transit with faultNotices := s.transit.faultNotices.erase c } }
    ∧ ∀ k, t.attention.get k = told s.claims (postsOf (s.claims.holders.get c) .fault) k (s.attention.get k)

/-- TOP_REPORT and VALUE_REPORT: the oldest report on its way to the channel sets its top value, in every condition;
the target follows it unless the channel is held at rest, and the output moves by the ramp rule. (Reports travel in
order, channel by channel: log entry 8.) -/
def Obligations.ReportsSetTopValueAndTarget : Prop :=
  ∀ (s : State) (c : Chan) (report : Report) (rest : List Report),
    s.transit.reports.get c = report :: rest → (s.outputs.chans.get c).outputState = .enabled →
    let command : Instr := match report with
      | .newTop _ _ => .topReport c
      | .emptyStack => .topReport c
      | .newValue _ => .valueReport c
    let topValue : Option Nat := match report with
      | .newTop _ v => some v
      | .emptyStack => none
      | .newValue v => some v
    ∃ t, exec command s = .next t
    ∧ t = { s with
        outputs := { s.outputs with chans := t.outputs.chans }, monitor := t.monitor
        transit := { s.transit with reports := t.transit.reports } }
    ∧ t.transit.reports.get c = rest
    ∧ (∀ d, d ≠ c → t.transit.reports.get d = s.transit.reports.get d
        ∧ t.outputs.chans.get d = s.outputs.chans.get d)
    ∧ disturbedByChange s t
    ∧ (let ch := s.outputs.chans.get c
       let ch' := t.outputs.chans.get c
       ch' = { ch with
         topValue := topValue, target := ch'.target, output := ch'.output, rampState := ch'.rampState }
       ∧ movedTo ch ch' (targetOf s c topValue))

/-- QUIESCEN_FALL and QUIESCEN_RISE after the load: the fall sets the quiesced flag, steps every ENABLED output to its
rest value and disturbs the conversion in flight; the rise clears the flag and every ENABLED channel takes the target
of its condition and top value, its output moving by the ramp rule; every OPEN session is told QUIESCE at each. Until
the load ends a level change reaches the pin alone. A pin already at the level has no change (log entry 16). -/
def Obligations.QuiesceFollowsPin : Prop :=
  (∀ s : State, s.store.loadInProgress = true →
    exec .quiescenFall s = .next { s with quiescenLow := true }
      ∧ exec .quiescenRise s = .next { s with quiescenLow := false })
  ∧ (∀ s : State, (s.quiescenLow = true → exec .quiescenFall s = .next s)
      ∧ (s.quiescenLow = false → exec .quiescenRise s = .next s))
  ∧ ∀ s : State, s.store.loadInProgress = false →
    (s.quiescenLow = false → ∃ t, exec .quiescenFall s = .next t
      ∧ t = { s with
          quiescenLow := true, outputs := { s.outputs with quiesced := true, chans := t.outputs.chans }
          monitor := t.monitor, attention := t.attention }
      ∧ (∀ c, let ch := s.outputs.chans.get c
          (ch.outputState = .disabled → t.outputs.chans.get c = ch)
          ∧ (ch.outputState = .enabled → t.outputs.chans.get c = { ch with
              target := ch.rest, output := ch.rest, rampState := .settled }))
      ∧ t.monitor.scanPos = s.monitor.scanPos ∧ t.monitor.chans = s.monitor.chans
      ∧ (∀ cv, s.monitor.state = .converting cv → t.monitor.state = .converting { cv with disturbed := true })
      ∧ ((∀ cv, s.monitor.state ≠ .converting cv) → t.monitor.state = s.monitor.state)
      ∧ toldEverySession s t .quiesce)
    ∧ (s.quiescenLow = true → ∃ t, exec .quiescenRise s = .next t
      ∧ t = { s with
          quiescenLow := false, outputs := { s.outputs with quiesced := false, chans := t.outputs.chans }
          monitor := t.monitor, attention := t.attention }
      ∧ disturbedByChange s t
      ∧ (∀ c, let ch := s.outputs.chans.get c
          let ch' := t.outputs.chans.get c
          (ch.outputState = .disabled → ch' = ch)
          ∧ (ch.outputState = .enabled →
            ch' = { ch with target := ch'.target, output := ch'.output, rampState := ch'.rampState }
            ∧ movedTo ch ch' (if ch.condition = .faulted then ch.rest else ch.topValue.getD ch.rest)))
      ∧ toldEverySession s t .quiesce)

/-! ## Rules of the whole machine -/

/-- The state after device reset meets every rule below. -/
def Obligations.ResetMeetsEveryRule : Prop :=
  PortsInv State.reset ∧ OwnersInv State.reset ∧ StacksInv State.reset ∧ LeasesInv State.reset
    ∧ OutputsInv State.reset ∧ TimebaseInv State.reset ∧ SupervisorInv State.reset ∧ ProfilesInv State.reset
    ∧ DeliveredInv State.reset ∧ ListsInv State.reset ∧ CountsInv State.reset ∧ MissesInv State.reset
    ∧ TargetsInv State.reset

/-- Every step keeps the items of each link port in one of the combinations of the port table. -/
def Obligations.PortCombinationsKept : Prop := ∀ s t : State, PortsInv s → step s = .next t → PortsInv t

/-- Every step keeps these: at most one MAINTENANCE session, one OPEN session for a tag on a port, the lapse list
exact, keepalives running; every record's owner OPEN and owning at most 16, and no list where no session is OPEN. With
them it keeps each list at one entry for a record and one for a device kind, each claim entry naming by its present
handle a record of that session, and every RETIRED record with an entry in its owner's list. -/
def Obligations.SessionRulesKept : Prop :=
  (∀ s t : State, OwnersInv s → step s = .next t → OwnersInv t)
  ∧ ∀ s t : State, ListsInv s → step s = .next t → ListsInv t

/-- Every step keeps each stack at no more than 4 records in strictly decreasing priority, holding exactly the LIVE
records that list its channel. -/
def Obligations.HolderStacksKept : Prop := ∀ s t : State, StacksInv s → step s = .next t → StacksInv t

/-- Every step keeps each record's fields in their ranges and each LIVE record's remaining count at 1 or more. -/
def Obligations.LeaseRangesKept : Prop := ∀ s t : State, LeasesInv s → step s = .next t → LeasesInv t

/-- Every step keeps a quiesced or FAULTED channel's output and target at its rest value, and every channel SETTLED
exactly when its output stands at its target. -/
def Obligations.HeldChannelsStayAtRest : Prop := ∀ s t : State, OutputsInv s → step s = .next t → OutputsInv t

/-- Every step keeps every record out of LIVE while the supervisor is STARTING or LAPSED. -/
def Obligations.NoLiveClaimWithoutTimebase : Prop := ∀ s t : State, TimebaseInv s → step s = .next t → TimebaseInv t

/-- Every step keeps the supervisor's counts, reference-present, tick source and countdown as its state has them; and,
with the profiles in range, the divider count below the division in force and holdover remaining between 1 and the
holdover period. -/
def Obligations.SupervisorCountsKept : Prop :=
  (∀ s t : State, SupervisorInv s → step s = .next t → SupervisorInv t)
  ∧ ∀ s t : State, CountsInv s → step s = .next t → CountsInv t

/-- Every step keeps the active profile in range and consistent, and the staging profile in range; and with them every
miss count below its miss limit. -/
def Obligations.ProfilesStayInRange : Prop :=
  (∀ s t : State, ProfilesInv s → step s = .next t → ProfilesInv t)
  ∧ ∀ s t : State, MissesInv s → step s = .next t → MissesInv t

/-- Every step keeps every block at the settings of the active profile, and the outputs DISABLED and the monitor
STOPPED exactly until the start-up load ends; and with them the target of every NORMAL channel that is not quiesced at
its top value, or at its rest value with none. (Where a top value still stands at an activation: log entry 29.) -/
def Obligations.SettingsFollowActiveProfile : Prop :=
  (∀ s t : State, DeliveredInv s → step s = .next t → DeliveredInv t)
  ∧ ∀ s t : State, TargetsInv s → step s = .next t → TargetsInv t

end
end

