-- ==== Sys2Proof/Laws/Table.lean ====
section
/-! SUPPORT. What reading a record of a table gives after each way of making or changing the table. -/

namespace Sys2Proof.Table

variable {n : Nat} {α β : Type}

/-- A record is the cell of its number. -/
theorem get_eq (t : Table n α) (i : Fin n) : t.get i = t.cells[i.val]'(by rw [t.size_eq]; exact i.isLt) := rfl

/-- Two tables with the same records are the same table. -/
theorem ext_get {t u : Table n α} (h : ∀ i, t.get i = u.get i) : t = u := by
  obtain ⟨ct, ht⟩ := t
  obtain ⟨cu, hu⟩ := u
  subst ht
  have : ct = cu := by
    apply List.ext_getElem hu.symm
    intro i h1 h2
    simpa [get_eq] using h ⟨i, h1⟩
  subst this
  rfl

@[simp] theorem get_ofFn (f : Fin n → α) (i : Fin n) : (ofFn f).get i = f i := by simp [get_eq, ofFn]

@[simp] theorem get_replicate (a : α) (i : Fin n) : (replicate a : Table n α).get i = a := by
  simp [get_eq, replicate]

@[simp] theorem get_set_self (t : Table n α) (i : Fin n) (a : α) : (t.set i a).get i = a := by simp [get_eq, set]

theorem get_set_ne (t : Table n α) {i j : Fin n} (a : α) (h : j ≠ i) : (t.set i a).get j = t.get j := by
  have : i.val ≠ j.val := fun e => h (Fin.ext e.symm)
  simp [get_eq, set, this]

/-- A record after another, or the same one, was replaced. -/
theorem get_set (t : Table n α) (i j : Fin n) (a : α) : (t.set i a).get j = if j = i then a else t.get j := by
  by_cases h : j = i
  · subst h; simp
  · simp [h, get_set_ne]

/-- A record after another, or the same one, was changed. -/
theorem get_modify (t : Table n α) (i j : Fin n) (f : α → α) :
    (t.modify i f).get j = if j = i then f (t.get i) else t.get j := get_set t i j _

@[simp] theorem get_modify_self (t : Table n α) (i : Fin n) (f : α → α) : (t.modify i f).get i = f (t.get i) := by
  simp [get_modify]

theorem get_modify_ne (t : Table n α) {i j : Fin n} (f : α → α) (h : j ≠ i) : (t.modify i f).get j = t.get j := by
  simp [get_modify, h]

@[simp] theorem get_map (t : Table n α) (f : α → β) (i : Fin n) : (t.map f).get i = f (t.get i) := by simp [get_eq, map]

@[simp] theorem get_mapIdx (t : Table n α) (f : Fin n → α → β) (i : Fin n) : (t.mapIdx f).get i = f i (t.get i) := by
  simp [mapIdx]

end Sys2Proof.Table
end

