-- ==== Sys2Proof/Laws/Copies.lean ====
section
/-! SUPPORT. Where the bytes of a profile copy stand (R133), and what the ranges of R132 say of each field. -/

namespace Sys2Proof.Machine

/-- R132: every field of a profile in range lies within its range. -/
theorem Profile.field_inRange {prof : Profile} (h : prof.inRange = true) (f : ProfileField) (c : Chan) :
    f.range.1 ≤ prof.field f c ∧ prof.field f c ≤ f.range.2 := by
  have := (List.all_eq_true.mp h) f (by cases f <;> simp [ProfileField.all])
  have := (List.all_eq_true.mp this) c (List.mem_finRange c)
  simpa [ProfileField.admits] using this

theorem Profile.sound_iff (prof : Profile) : prof.sound = true ↔ prof.inRange = true ∧ prof.consistent = true := by
  simp [Profile.sound]

theorem ChannelProfile.bytes_length (k : ChannelProfile) : k.bytes.length = 11 := rfl

theorem Profile.globalBytes_length (prof : Profile) : prof.globalBytes.length = 12 := rfl

theorem Profile.content_length (prof : Profile) : prof.content.length = 540 := by
  have : ∀ l : List ChannelProfile, (l.flatMap ChannelProfile.bytes).length = 11 * l.length := by
    intro l
    induction l with
    | nil => rfl
    | cons k l ih => simp [List.flatMap_cons, ChannelProfile.bytes_length, ih]; omega
  rw [Profile.content, List.length_append, Profile.globalBytes_length, this, prof.chans.size_eq]

/-- Byte `k` of the channel at position `i`, in a run of channels' bytes. -/
theorem flatMap_bytes_getD (l : List ChannelProfile) (i k : Nat) (hi : i < l.length) (hk : k < 11)
    (rest : List Byte) :
    (l.flatMap ChannelProfile.bytes ++ rest).getD (11 * i + k) 0#8 = (l[i].bytes).getD k 0#8 := by
  simp only [List.getD_eq_getElem?_getD]
  induction l generalizing i with
  | nil => simp at hi
  | cons a l ih =>
    rw [List.flatMap_cons, List.append_assoc]
    cases i with
    | zero =>
      rw [List.getElem?_append_left (by rw [ChannelProfile.bytes_length]; omega)]
      simp
    | succ i =>
      rw [List.getElem?_append_right (by rw [ChannelProfile.bytes_length]; omega)]
      have := ih i (by simpa using hi)
      simp only [ChannelProfile.bytes_length, List.getElem_cons_succ]
      rw [← this]; congr 2; omega

/-- R133: bytes 0 to 11 of a copy are the global fields. -/
theorem copyImage_global (prof : Profile) (k : Nat) (hk : k < 12) :
    byteAt (copyImage prof) k = (prof.globalBytes.getD k 0#8).toNat := by
  unfold byteAt copyImage Profile.content
  rw [List.append_assoc]
  simp only [List.getD_eq_getElem?_getD]
  rw [List.getElem?_append_left (by rw [Profile.globalBytes_length]; omega)]

/-- R133: the 11 bytes of channel n begin at byte 12 + 11n. -/
theorem copyImage_channel (prof : Profile) (c : Chan) (k : Nat) (hk : k < 11) :
    byteAt (copyImage prof) (12 + 11 * c.val + k) = ((prof.chans.get c).bytes.getD k 0#8).toNat := by
  unfold byteAt copyImage Profile.content
  rw [List.append_assoc]
  simp only [List.getD_eq_getElem?_getD]
  rw [List.getElem?_append_right (by rw [Profile.globalBytes_length]; omega)]
  have := flatMap_bytes_getD prof.chans.cells c.val k (by rw [prof.chans.size_eq]; exact c.isLt) hk
    (be16 (crc16 prof.content).toNat)
  simp only [List.getD_eq_getElem?_getD, Profile.content] at this
  rw [Profile.globalBytes_length, show 12 + 11 * c.val + k - 12 = 11 * c.val + k by omega, this, Table.get_eq]

/-- R133: bytes 540 and 541 of a copy are its CRC. -/
theorem copyImage_crc (prof : Profile) : wordAt (copyImage prof) 540 = (crc16 prof.content).toNat := by
  unfold wordAt byteAt copyImage
  simp only [List.getD_eq_getElem?_getD]
  rw [List.getElem?_append_right (by rw [Profile.content_length]),
    List.getElem?_append_right (by rw [Profile.content_length]; omega)]
  have := (crc16 prof.content).isLt
  simp [Profile.content_length, be16]; omega

/-- R133: the first 540 bytes of a copy are its content. -/
theorem copyImage_take (prof : Profile) : (copyImage prof).take 540 = prof.content := by
  unfold copyImage
  rw [List.take_append_of_le_length (by rw [Profile.content_length])]
  rw [← Profile.content_length prof, List.take_length]

/-- R133: a copy whose fields read back in range and consistent is valid. -/
theorem copyValid_of_fields {prof : Profile} (h1 : (profileOf (copyImage prof)).inRange = true)
    (h2 : (profileOf (copyImage prof)).consistent = true) : copyValid (copyImage prof) = true := by
  have h3 : (copyImage prof).length = Config.copyBytes := by
    rw [copyImage, List.length_append, Profile.content_length]; rfl
  simp [copyValid, h1, h2, h3, Config.contentBytes, copyImage_take, copyImage_crc]

/-! ## What a write cut short leaves (R146) -/

/-- R133: an erased copy is invalid. -/
theorem erasedCopy_invalid (older : List Byte) : copyValid (erasedCopy older) = false := by
  by_cases h : older.length = 542
  · have : erasedCopy older = Config.firstCopy := by
      rw [erasedCopy, List.map_const', h]; rfl
    rw [this]
    decide +kernel
  · simp [copyValid, erasedCopy, h, Config.copyBytes]

/-- R146: what is left is invalid or `whole`, if `plain` is. -/
theorem leftBy_spec {whole plain r : List Byte} (h : copyValid plain = false ∨ plain = whole) :
    copyValid (leftBy whole plain r) = false ∨ leftBy whole plain r = whole := by
  unfold leftBy
  split
  · exact h
  · next hr =>
    simp only [Bool.and_eq_true, bne_iff_ne, not_and, not_not] at hr
    cases hv : copyValid r
    · exact .inl rfl
    · exact .inr (hr hv)

/-- R146: during the erase the target is invalid or holds its older contents. -/
theorem tornCopy_erasing (older image : List Byte) (flaws : List Flaw) (kept : List Bool) :
    copyValid (tornCopy older image flaws (.erasing kept)) = false
      ∨ tornCopy older image flaws (.erasing kept) = older :=
  leftBy_spec (.inl (erasedCopy_invalid older))

/-- R146: before the end of part 4 the target is invalid or holds the image, if it is so with every byte as written. -/
theorem tornCopy_writing {older image : List Byte} {flaws : List Flaw} {n : Nat} (hn : n < 542)
    (h : copyValid (partWritten older image n) = false ∨ partWritten older image n = image) :
    copyValid (tornCopy older image flaws (.writing n)) = false
      ∨ tornCopy older image flaws (.writing n) = image := by
  have : n < Config.copyBytes := hn
  simp only [tornCopy, this, if_true]
  exact leftBy_spec h

/-- R142: with no byte reading otherwise, the target is as written. -/
theorem tornCopy_writing_plain (older image : List Byte) (n : Nat) :
    tornCopy older image [] (.writing n) = partWritten older image n := by
  simp only [tornCopy, List.filter_nil, applyFlaws, List.foldl_nil, leftBy]
  split <;> simp

end Sys2Proof.Machine
end

