-- ==== Sys2Proof/Laws/State.lean ====
section
/-! SUPPORT. The fields each named update of the state leaves as they were, one lemma for each update and field. -/

namespace Sys2Proof.Machine

variable (s : State)

/-! ## Ports and the decoder -/

@[simp] theorem State.modifyPort_pending (p : PortId) (f : Port → Port) : (s.modifyPort p f).pending = s.pending := rfl
@[simp] theorem State.modifyPort_resetHeld (p : PortId) (f : Port → Port) : (s.modifyPort p f).resetHeld = s.resetHeld := rfl
@[simp] theorem State.modifyPort_quiescenLow (p : PortId) (f : Port → Port) : (s.modifyPort p f).quiescenLow = s.quiescenLow := rfl
@[simp] theorem State.modifyPort_sessions (p : PortId) (f : Port → Port) : (s.modifyPort p f).sessions = s.sessions := rfl
@[simp] theorem State.modifyPort_claims (p : PortId) (f : Port → Port) : (s.modifyPort p f).claims = s.claims := rfl
@[simp] theorem State.modifyPort_attention (p : PortId) (f : Port → Port) : (s.modifyPort p f).attention = s.attention := rfl
@[simp] theorem State.modifyPort_outputs (p : PortId) (f : Port → Port) : (s.modifyPort p f).outputs = s.outputs := rfl
@[simp] theorem State.modifyPort_monitor (p : PortId) (f : Port → Port) : (s.modifyPort p f).monitor = s.monitor := rfl
@[simp] theorem State.modifyPort_supervisor (p : PortId) (f : Port → Port) : (s.modifyPort p f).supervisor = s.supervisor := rfl
@[simp] theorem State.modifyPort_store (p : PortId) (f : Port → Port) : (s.modifyPort p f).store = s.store := rfl
@[simp] theorem State.modifyPort_transit (p : PortId) (f : Port → Port) : (s.modifyPort p f).transit = s.transit := rfl

@[simp] theorem State.answer_pending (p : PortId) (code : Byte) (reply : Reply) : (s.answer p code reply).pending = s.pending := rfl
@[simp] theorem State.answer_resetHeld (p : PortId) (code : Byte) (reply : Reply) : (s.answer p code reply).resetHeld = s.resetHeld := rfl
@[simp] theorem State.answer_quiescenLow (p : PortId) (code : Byte) (reply : Reply) : (s.answer p code reply).quiescenLow = s.quiescenLow := rfl
@[simp] theorem State.answer_sessions (p : PortId) (code : Byte) (reply : Reply) : (s.answer p code reply).sessions = s.sessions := rfl
@[simp] theorem State.answer_claims (p : PortId) (code : Byte) (reply : Reply) : (s.answer p code reply).claims = s.claims := rfl
@[simp] theorem State.answer_attention (p : PortId) (code : Byte) (reply : Reply) : (s.answer p code reply).attention = s.attention := rfl
@[simp] theorem State.answer_outputs (p : PortId) (code : Byte) (reply : Reply) : (s.answer p code reply).outputs = s.outputs := rfl
@[simp] theorem State.answer_monitor (p : PortId) (code : Byte) (reply : Reply) : (s.answer p code reply).monitor = s.monitor := rfl
@[simp] theorem State.answer_supervisor (p : PortId) (code : Byte) (reply : Reply) : (s.answer p code reply).supervisor = s.supervisor := rfl
@[simp] theorem State.answer_store (p : PortId) (code : Byte) (reply : Reply) : (s.answer p code reply).store = s.store := rfl
@[simp] theorem State.answer_transit (p : PortId) (code : Byte) (reply : Reply) : (s.answer p code reply).transit = s.transit := rfl

@[simp] theorem State.csFall_pending (p : PortId) : (s.csFall p).pending = s.pending := by
  unfold State.csFall; repeat' split
  all_goals rfl
@[simp] theorem State.csFall_resetHeld (p : PortId) : (s.csFall p).resetHeld = s.resetHeld := by
  unfold State.csFall; repeat' split
  all_goals rfl
@[simp] theorem State.csFall_quiescenLow (p : PortId) : (s.csFall p).quiescenLow = s.quiescenLow := by
  unfold State.csFall; repeat' split
  all_goals rfl
@[simp] theorem State.csFall_sessions (p : PortId) : (s.csFall p).sessions = s.sessions := by
  unfold State.csFall; repeat' split
  all_goals rfl
@[simp] theorem State.csFall_claims (p : PortId) : (s.csFall p).claims = s.claims := by
  unfold State.csFall; repeat' split
  all_goals rfl
@[simp] theorem State.csFall_attention (p : PortId) : (s.csFall p).attention = s.attention := by
  unfold State.csFall; repeat' split
  all_goals rfl
@[simp] theorem State.csFall_outputs (p : PortId) : (s.csFall p).outputs = s.outputs := by
  unfold State.csFall; repeat' split
  all_goals rfl
@[simp] theorem State.csFall_monitor (p : PortId) : (s.csFall p).monitor = s.monitor := by
  unfold State.csFall; repeat' split
  all_goals rfl
@[simp] theorem State.csFall_supervisor (p : PortId) : (s.csFall p).supervisor = s.supervisor := by
  unfold State.csFall; repeat' split
  all_goals rfl
@[simp] theorem State.csFall_store (p : PortId) : (s.csFall p).store = s.store := by
  unfold State.csFall; repeat' split
  all_goals rfl
@[simp] theorem State.csFall_transit (p : PortId) : (s.csFall p).transit = s.transit := by
  unfold State.csFall; repeat' split
  all_goals rfl

@[simp] theorem State.csRise_pending (p : PortId) (bytes : List Byte) (bits : Fin 8) : (s.csRise p bytes bits).pending = s.pending := by
  unfold State.csRise; repeat' split
  all_goals rfl
@[simp] theorem State.csRise_resetHeld (p : PortId) (bytes : List Byte) (bits : Fin 8) : (s.csRise p bytes bits).resetHeld = s.resetHeld := by
  unfold State.csRise; repeat' split
  all_goals rfl
@[simp] theorem State.csRise_quiescenLow (p : PortId) (bytes : List Byte) (bits : Fin 8) : (s.csRise p bytes bits).quiescenLow = s.quiescenLow := by
  unfold State.csRise; repeat' split
  all_goals rfl
@[simp] theorem State.csRise_sessions (p : PortId) (bytes : List Byte) (bits : Fin 8) : (s.csRise p bytes bits).sessions = s.sessions := by
  unfold State.csRise; repeat' split
  all_goals rfl
@[simp] theorem State.csRise_claims (p : PortId) (bytes : List Byte) (bits : Fin 8) : (s.csRise p bytes bits).claims = s.claims := by
  unfold State.csRise; repeat' split
  all_goals rfl
@[simp] theorem State.csRise_attention (p : PortId) (bytes : List Byte) (bits : Fin 8) : (s.csRise p bytes bits).attention = s.attention := by
  unfold State.csRise; repeat' split
  all_goals rfl
@[simp] theorem State.csRise_outputs (p : PortId) (bytes : List Byte) (bits : Fin 8) : (s.csRise p bytes bits).outputs = s.outputs := by
  unfold State.csRise; repeat' split
  all_goals rfl
@[simp] theorem State.csRise_monitor (p : PortId) (bytes : List Byte) (bits : Fin 8) : (s.csRise p bytes bits).monitor = s.monitor := by
  unfold State.csRise; repeat' split
  all_goals rfl
@[simp] theorem State.csRise_supervisor (p : PortId) (bytes : List Byte) (bits : Fin 8) : (s.csRise p bytes bits).supervisor = s.supervisor := by
  unfold State.csRise; repeat' split
  all_goals rfl
@[simp] theorem State.csRise_store (p : PortId) (bytes : List Byte) (bits : Fin 8) : (s.csRise p bytes bits).store = s.store := by
  unfold State.csRise; repeat' split
  all_goals rfl
@[simp] theorem State.csRise_transit (p : PortId) (bytes : List Byte) (bits : Fin 8) : (s.csRise p bytes bits).transit = s.transit := by
  unfold State.csRise; repeat' split
  all_goals rfl

@[simp] theorem State.transact_pending (p : PortId) (kind : List Byte) (x : Transaction) : (s.transact p kind x).pending = s.pending := by cases x <;> simp [State.transact]
@[simp] theorem State.transact_resetHeld (p : PortId) (kind : List Byte) (x : Transaction) : (s.transact p kind x).resetHeld = s.resetHeld := by cases x <;> simp [State.transact]
@[simp] theorem State.transact_quiescenLow (p : PortId) (kind : List Byte) (x : Transaction) : (s.transact p kind x).quiescenLow = s.quiescenLow := by cases x <;> simp [State.transact]
@[simp] theorem State.transact_sessions (p : PortId) (kind : List Byte) (x : Transaction) : (s.transact p kind x).sessions = s.sessions := by cases x <;> simp [State.transact]
@[simp] theorem State.transact_claims (p : PortId) (kind : List Byte) (x : Transaction) : (s.transact p kind x).claims = s.claims := by cases x <;> simp [State.transact]
@[simp] theorem State.transact_attention (p : PortId) (kind : List Byte) (x : Transaction) : (s.transact p kind x).attention = s.attention := by cases x <;> simp [State.transact]
@[simp] theorem State.transact_outputs (p : PortId) (kind : List Byte) (x : Transaction) : (s.transact p kind x).outputs = s.outputs := by cases x <;> simp [State.transact]
@[simp] theorem State.transact_monitor (p : PortId) (kind : List Byte) (x : Transaction) : (s.transact p kind x).monitor = s.monitor := by cases x <;> simp [State.transact]
@[simp] theorem State.transact_supervisor (p : PortId) (kind : List Byte) (x : Transaction) : (s.transact p kind x).supervisor = s.supervisor := by cases x <;> simp [State.transact]
@[simp] theorem State.transact_store (p : PortId) (kind : List Byte) (x : Transaction) : (s.transact p kind x).store = s.store := by cases x <;> simp [State.transact]
@[simp] theorem State.transact_transit (p : PortId) (kind : List Byte) (x : Transaction) : (s.transact p kind x).transit = s.transit := by cases x <;> simp [State.transact]

@[simp] theorem State.startPorts_pending : s.startPorts.pending = s.pending := rfl
@[simp] theorem State.startPorts_resetHeld : s.startPorts.resetHeld = s.resetHeld := rfl
@[simp] theorem State.startPorts_quiescenLow : s.startPorts.quiescenLow = s.quiescenLow := rfl
@[simp] theorem State.startPorts_sessions : s.startPorts.sessions = s.sessions := rfl
@[simp] theorem State.startPorts_claims : s.startPorts.claims = s.claims := rfl
@[simp] theorem State.startPorts_attention : s.startPorts.attention = s.attention := rfl
@[simp] theorem State.startPorts_outputs : s.startPorts.outputs = s.outputs := rfl
@[simp] theorem State.startPorts_monitor : s.startPorts.monitor = s.monitor := rfl
@[simp] theorem State.startPorts_supervisor : s.startPorts.supervisor = s.supervisor := rfl
@[simp] theorem State.startPorts_store : s.startPorts.store = s.store := rfl
@[simp] theorem State.startPorts_transit : s.startPorts.transit = s.transit := rfl

/-! ## Attention lists -/

@[simp] theorem State.notices_pending (is : List RecIdx) (why : Reason) : (s.notices is why).pending = s.pending := rfl
@[simp] theorem State.notices_resetHeld (is : List RecIdx) (why : Reason) : (s.notices is why).resetHeld = s.resetHeld := rfl
@[simp] theorem State.notices_quiescenLow (is : List RecIdx) (why : Reason) : (s.notices is why).quiescenLow = s.quiescenLow := rfl
@[simp] theorem State.notices_ports (is : List RecIdx) (why : Reason) : (s.notices is why).ports = s.ports := rfl
@[simp] theorem State.notices_sessions (is : List RecIdx) (why : Reason) : (s.notices is why).sessions = s.sessions := rfl
@[simp] theorem State.notices_claims (is : List RecIdx) (why : Reason) : (s.notices is why).claims = s.claims := rfl
@[simp] theorem State.notices_outputs (is : List RecIdx) (why : Reason) : (s.notices is why).outputs = s.outputs := rfl
@[simp] theorem State.notices_monitor (is : List RecIdx) (why : Reason) : (s.notices is why).monitor = s.monitor := rfl
@[simp] theorem State.notices_supervisor (is : List RecIdx) (why : Reason) : (s.notices is why).supervisor = s.supervisor := rfl
@[simp] theorem State.notices_store (is : List RecIdx) (why : Reason) : (s.notices is why).store = s.store := rfl
@[simp] theorem State.notices_transit (is : List RecIdx) (why : Reason) : (s.notices is why).transit = s.transit := rfl

@[simp] theorem State.deviceNotice_pending (k : DeviceKind) : (s.deviceNotice k).pending = s.pending := rfl
@[simp] theorem State.deviceNotice_resetHeld (k : DeviceKind) : (s.deviceNotice k).resetHeld = s.resetHeld := rfl
@[simp] theorem State.deviceNotice_quiescenLow (k : DeviceKind) : (s.deviceNotice k).quiescenLow = s.quiescenLow := rfl
@[simp] theorem State.deviceNotice_ports (k : DeviceKind) : (s.deviceNotice k).ports = s.ports := rfl
@[simp] theorem State.deviceNotice_sessions (k : DeviceKind) : (s.deviceNotice k).sessions = s.sessions := rfl
@[simp] theorem State.deviceNotice_claims (k : DeviceKind) : (s.deviceNotice k).claims = s.claims := rfl
@[simp] theorem State.deviceNotice_outputs (k : DeviceKind) : (s.deviceNotice k).outputs = s.outputs := rfl
@[simp] theorem State.deviceNotice_monitor (k : DeviceKind) : (s.deviceNotice k).monitor = s.monitor := rfl
@[simp] theorem State.deviceNotice_supervisor (k : DeviceKind) : (s.deviceNotice k).supervisor = s.supervisor := rfl
@[simp] theorem State.deviceNotice_store (k : DeviceKind) : (s.deviceNotice k).store = s.store := rfl
@[simp] theorem State.deviceNotice_transit (k : DeviceKind) : (s.deviceNotice k).transit = s.transit := rfl

@[simp] theorem State.maintenanceNotice_pending (k : DeviceKind) : (s.maintenanceNotice k).pending = s.pending := rfl
@[simp] theorem State.maintenanceNotice_resetHeld (k : DeviceKind) : (s.maintenanceNotice k).resetHeld = s.resetHeld := rfl
@[simp] theorem State.maintenanceNotice_quiescenLow (k : DeviceKind) : (s.maintenanceNotice k).quiescenLow = s.quiescenLow := rfl
@[simp] theorem State.maintenanceNotice_ports (k : DeviceKind) : (s.maintenanceNotice k).ports = s.ports := rfl
@[simp] theorem State.maintenanceNotice_sessions (k : DeviceKind) : (s.maintenanceNotice k).sessions = s.sessions := rfl
@[simp] theorem State.maintenanceNotice_claims (k : DeviceKind) : (s.maintenanceNotice k).claims = s.claims := rfl
@[simp] theorem State.maintenanceNotice_outputs (k : DeviceKind) : (s.maintenanceNotice k).outputs = s.outputs := rfl
@[simp] theorem State.maintenanceNotice_monitor (k : DeviceKind) : (s.maintenanceNotice k).monitor = s.monitor := rfl
@[simp] theorem State.maintenanceNotice_supervisor (k : DeviceKind) : (s.maintenanceNotice k).supervisor = s.supervisor := rfl
@[simp] theorem State.maintenanceNotice_store (k : DeviceKind) : (s.maintenanceNotice k).store = s.store := rfl
@[simp] theorem State.maintenanceNotice_transit (k : DeviceKind) : (s.maintenanceNotice k).transit = s.transit := rfl

@[simp] theorem State.takeFaultNotice_pending (c : Chan) : (s.takeFaultNotice c).pending = s.pending := by
  unfold State.takeFaultNotice; repeat' split
  all_goals rfl
@[simp] theorem State.takeFaultNotice_resetHeld (c : Chan) : (s.takeFaultNotice c).resetHeld = s.resetHeld := by
  unfold State.takeFaultNotice; repeat' split
  all_goals rfl
@[simp] theorem State.takeFaultNotice_quiescenLow (c : Chan) : (s.takeFaultNotice c).quiescenLow = s.quiescenLow := by
  unfold State.takeFaultNotice; repeat' split
  all_goals rfl
@[simp] theorem State.takeFaultNotice_ports (c : Chan) : (s.takeFaultNotice c).ports = s.ports := by
  unfold State.takeFaultNotice; repeat' split
  all_goals rfl
@[simp] theorem State.takeFaultNotice_sessions (c : Chan) : (s.takeFaultNotice c).sessions = s.sessions := by
  unfold State.takeFaultNotice; repeat' split
  all_goals rfl
@[simp] theorem State.takeFaultNotice_claims (c : Chan) : (s.takeFaultNotice c).claims = s.claims := by
  unfold State.takeFaultNotice; repeat' split
  all_goals rfl
@[simp] theorem State.takeFaultNotice_outputs (c : Chan) : (s.takeFaultNotice c).outputs = s.outputs := by
  unfold State.takeFaultNotice; repeat' split
  all_goals rfl
@[simp] theorem State.takeFaultNotice_monitor (c : Chan) : (s.takeFaultNotice c).monitor = s.monitor := by
  unfold State.takeFaultNotice; repeat' split
  all_goals rfl
@[simp] theorem State.takeFaultNotice_supervisor (c : Chan) : (s.takeFaultNotice c).supervisor = s.supervisor := by
  unfold State.takeFaultNotice; repeat' split
  all_goals rfl
@[simp] theorem State.takeFaultNotice_store (c : Chan) : (s.takeFaultNotice c).store = s.store := by
  unfold State.takeFaultNotice; repeat' split
  all_goals rfl

/-! ## Claims -/

@[simp] theorem State.handTops_pending (before : ClaimTable) (cs : List Chan) : (s.handTops before cs).pending = s.pending := rfl
@[simp] theorem State.handTops_resetHeld (before : ClaimTable) (cs : List Chan) : (s.handTops before cs).resetHeld = s.resetHeld := rfl
@[simp] theorem State.handTops_quiescenLow (before : ClaimTable) (cs : List Chan) : (s.handTops before cs).quiescenLow = s.quiescenLow := rfl
@[simp] theorem State.handTops_ports (before : ClaimTable) (cs : List Chan) : (s.handTops before cs).ports = s.ports := rfl
@[simp] theorem State.handTops_sessions (before : ClaimTable) (cs : List Chan) : (s.handTops before cs).sessions = s.sessions := rfl
@[simp] theorem State.handTops_claims (before : ClaimTable) (cs : List Chan) : (s.handTops before cs).claims = s.claims := rfl
@[simp] theorem State.handTops_outputs (before : ClaimTable) (cs : List Chan) : (s.handTops before cs).outputs = s.outputs := rfl
@[simp] theorem State.handTops_monitor (before : ClaimTable) (cs : List Chan) : (s.handTops before cs).monitor = s.monitor := rfl
@[simp] theorem State.handTops_supervisor (before : ClaimTable) (cs : List Chan) : (s.handTops before cs).supervisor = s.supervisor := rfl
@[simp] theorem State.handTops_store (before : ClaimTable) (cs : List Chan) : (s.handTops before cs).store = s.store := rfl

@[simp] theorem State.retireAll_pending (is : List RecIdx) (why : RetireReason) : (s.retireAll is why).pending = s.pending := rfl
@[simp] theorem State.retireAll_resetHeld (is : List RecIdx) (why : RetireReason) : (s.retireAll is why).resetHeld = s.resetHeld := rfl
@[simp] theorem State.retireAll_quiescenLow (is : List RecIdx) (why : RetireReason) : (s.retireAll is why).quiescenLow = s.quiescenLow := rfl
@[simp] theorem State.retireAll_ports (is : List RecIdx) (why : RetireReason) : (s.retireAll is why).ports = s.ports := rfl
@[simp] theorem State.retireAll_sessions (is : List RecIdx) (why : RetireReason) : (s.retireAll is why).sessions = s.sessions := rfl
@[simp] theorem State.retireAll_outputs (is : List RecIdx) (why : RetireReason) : (s.retireAll is why).outputs = s.outputs := rfl
@[simp] theorem State.retireAll_monitor (is : List RecIdx) (why : RetireReason) : (s.retireAll is why).monitor = s.monitor := rfl
@[simp] theorem State.retireAll_supervisor (is : List RecIdx) (why : RetireReason) : (s.retireAll is why).supervisor = s.supervisor := rfl
@[simp] theorem State.retireAll_store (is : List RecIdx) (why : RetireReason) : (s.retireAll is why).store = s.store := rfl
@[simp] theorem State.retireAll_transit (is : List RecIdx) (why : RetireReason) : (s.retireAll is why).transit = s.transit := rfl

@[simp] theorem State.retireOne_pending (i : RecIdx) (why : RetireReason) : (s.retireOne i why).pending = s.pending := rfl
@[simp] theorem State.retireOne_resetHeld (i : RecIdx) (why : RetireReason) : (s.retireOne i why).resetHeld = s.resetHeld := rfl
@[simp] theorem State.retireOne_quiescenLow (i : RecIdx) (why : RetireReason) : (s.retireOne i why).quiescenLow = s.quiescenLow := rfl
@[simp] theorem State.retireOne_ports (i : RecIdx) (why : RetireReason) : (s.retireOne i why).ports = s.ports := rfl
@[simp] theorem State.retireOne_sessions (i : RecIdx) (why : RetireReason) : (s.retireOne i why).sessions = s.sessions := rfl
@[simp] theorem State.retireOne_outputs (i : RecIdx) (why : RetireReason) : (s.retireOne i why).outputs = s.outputs := rfl
@[simp] theorem State.retireOne_monitor (i : RecIdx) (why : RetireReason) : (s.retireOne i why).monitor = s.monitor := rfl
@[simp] theorem State.retireOne_supervisor (i : RecIdx) (why : RetireReason) : (s.retireOne i why).supervisor = s.supervisor := rfl
@[simp] theorem State.retireOne_store (i : RecIdx) (why : RetireReason) : (s.retireOne i why).store = s.store := rfl

@[simp] theorem State.retireMany_pending (is : List RecIdx) (why : RetireReason) : (s.retireMany is why).pending = s.pending := rfl
@[simp] theorem State.retireMany_resetHeld (is : List RecIdx) (why : RetireReason) : (s.retireMany is why).resetHeld = s.resetHeld := rfl
@[simp] theorem State.retireMany_quiescenLow (is : List RecIdx) (why : RetireReason) : (s.retireMany is why).quiescenLow = s.quiescenLow := rfl
@[simp] theorem State.retireMany_ports (is : List RecIdx) (why : RetireReason) : (s.retireMany is why).ports = s.ports := rfl
@[simp] theorem State.retireMany_sessions (is : List RecIdx) (why : RetireReason) : (s.retireMany is why).sessions = s.sessions := rfl
@[simp] theorem State.retireMany_outputs (is : List RecIdx) (why : RetireReason) : (s.retireMany is why).outputs = s.outputs := rfl
@[simp] theorem State.retireMany_monitor (is : List RecIdx) (why : RetireReason) : (s.retireMany is why).monitor = s.monitor := rfl
@[simp] theorem State.retireMany_supervisor (is : List RecIdx) (why : RetireReason) : (s.retireMany is why).supervisor = s.supervisor := rfl
@[simp] theorem State.retireMany_store (is : List RecIdx) (why : RetireReason) : (s.retireMany is why).store = s.store := rfl

@[simp] theorem State.grant_pending (i : RecIdx) (b : ClaimBody) : (s.grant i b).pending = s.pending := rfl
@[simp] theorem State.grant_resetHeld (i : RecIdx) (b : ClaimBody) : (s.grant i b).resetHeld = s.resetHeld := rfl
@[simp] theorem State.grant_quiescenLow (i : RecIdx) (b : ClaimBody) : (s.grant i b).quiescenLow = s.quiescenLow := rfl
@[simp] theorem State.grant_ports (i : RecIdx) (b : ClaimBody) : (s.grant i b).ports = s.ports := rfl
@[simp] theorem State.grant_sessions (i : RecIdx) (b : ClaimBody) : (s.grant i b).sessions = s.sessions := rfl
@[simp] theorem State.grant_outputs (i : RecIdx) (b : ClaimBody) : (s.grant i b).outputs = s.outputs := rfl
@[simp] theorem State.grant_monitor (i : RecIdx) (b : ClaimBody) : (s.grant i b).monitor = s.monitor := rfl
@[simp] theorem State.grant_supervisor (i : RecIdx) (b : ClaimBody) : (s.grant i b).supervisor = s.supervisor := rfl
@[simp] theorem State.grant_store (i : RecIdx) (b : ClaimBody) : (s.grant i b).store = s.store := rfl

@[simp] theorem State.storeAndReport_pending (i : RecIdx) (b : ClaimBody) (news : List Pair) : (s.storeAndReport i b news).pending = s.pending := rfl
@[simp] theorem State.storeAndReport_resetHeld (i : RecIdx) (b : ClaimBody) (news : List Pair) : (s.storeAndReport i b news).resetHeld = s.resetHeld := rfl
@[simp] theorem State.storeAndReport_quiescenLow (i : RecIdx) (b : ClaimBody) (news : List Pair) : (s.storeAndReport i b news).quiescenLow = s.quiescenLow := rfl
@[simp] theorem State.storeAndReport_ports (i : RecIdx) (b : ClaimBody) (news : List Pair) : (s.storeAndReport i b news).ports = s.ports := rfl
@[simp] theorem State.storeAndReport_sessions (i : RecIdx) (b : ClaimBody) (news : List Pair) : (s.storeAndReport i b news).sessions = s.sessions := rfl
@[simp] theorem State.storeAndReport_attention (i : RecIdx) (b : ClaimBody) (news : List Pair) : (s.storeAndReport i b news).attention = s.attention := rfl
@[simp] theorem State.storeAndReport_outputs (i : RecIdx) (b : ClaimBody) (news : List Pair) : (s.storeAndReport i b news).outputs = s.outputs := rfl
@[simp] theorem State.storeAndReport_monitor (i : RecIdx) (b : ClaimBody) (news : List Pair) : (s.storeAndReport i b news).monitor = s.monitor := rfl
@[simp] theorem State.storeAndReport_supervisor (i : RecIdx) (b : ClaimBody) (news : List Pair) : (s.storeAndReport i b news).supervisor = s.supervisor := rfl
@[simp] theorem State.storeAndReport_store (i : RecIdx) (b : ClaimBody) (news : List Pair) : (s.storeAndReport i b news).store = s.store := rfl

@[simp] theorem State.releaseRecord_pending (i : RecIdx) (b : ClaimBody) : (s.releaseRecord i b).pending = s.pending := rfl
@[simp] theorem State.releaseRecord_resetHeld (i : RecIdx) (b : ClaimBody) : (s.releaseRecord i b).resetHeld = s.resetHeld := rfl
@[simp] theorem State.releaseRecord_quiescenLow (i : RecIdx) (b : ClaimBody) : (s.releaseRecord i b).quiescenLow = s.quiescenLow := rfl
@[simp] theorem State.releaseRecord_ports (i : RecIdx) (b : ClaimBody) : (s.releaseRecord i b).ports = s.ports := rfl
@[simp] theorem State.releaseRecord_sessions (i : RecIdx) (b : ClaimBody) : (s.releaseRecord i b).sessions = s.sessions := rfl
@[simp] theorem State.releaseRecord_outputs (i : RecIdx) (b : ClaimBody) : (s.releaseRecord i b).outputs = s.outputs := rfl
@[simp] theorem State.releaseRecord_monitor (i : RecIdx) (b : ClaimBody) : (s.releaseRecord i b).monitor = s.monitor := rfl
@[simp] theorem State.releaseRecord_supervisor (i : RecIdx) (b : ClaimBody) : (s.releaseRecord i b).supervisor = s.supervisor := rfl
@[simp] theorem State.releaseRecord_store (i : RecIdx) (b : ClaimBody) : (s.releaseRecord i b).store = s.store := rfl

@[simp] theorem State.transferRecord_pending (i : RecIdx) (b : ClaimBody) (slot : Slot) : (s.transferRecord i b slot).pending = s.pending := rfl
@[simp] theorem State.transferRecord_resetHeld (i : RecIdx) (b : ClaimBody) (slot : Slot) : (s.transferRecord i b slot).resetHeld = s.resetHeld := rfl
@[simp] theorem State.transferRecord_quiescenLow (i : RecIdx) (b : ClaimBody) (slot : Slot) : (s.transferRecord i b slot).quiescenLow = s.quiescenLow := rfl
@[simp] theorem State.transferRecord_ports (i : RecIdx) (b : ClaimBody) (slot : Slot) : (s.transferRecord i b slot).ports = s.ports := rfl
@[simp] theorem State.transferRecord_sessions (i : RecIdx) (b : ClaimBody) (slot : Slot) : (s.transferRecord i b slot).sessions = s.sessions := rfl
@[simp] theorem State.transferRecord_outputs (i : RecIdx) (b : ClaimBody) (slot : Slot) : (s.transferRecord i b slot).outputs = s.outputs := rfl
@[simp] theorem State.transferRecord_monitor (i : RecIdx) (b : ClaimBody) (slot : Slot) : (s.transferRecord i b slot).monitor = s.monitor := rfl
@[simp] theorem State.transferRecord_supervisor (i : RecIdx) (b : ClaimBody) (slot : Slot) : (s.transferRecord i b slot).supervisor = s.supervisor := rfl
@[simp] theorem State.transferRecord_store (i : RecIdx) (b : ClaimBody) (slot : Slot) : (s.transferRecord i b slot).store = s.store := rfl
@[simp] theorem State.transferRecord_transit (i : RecIdx) (b : ClaimBody) (slot : Slot) : (s.transferRecord i b slot).transit = s.transit := rfl

@[simp] theorem State.teardown_pending (id : SessionId) : (s.teardown id).pending = s.pending := rfl
@[simp] theorem State.teardown_resetHeld (id : SessionId) : (s.teardown id).resetHeld = s.resetHeld := rfl
@[simp] theorem State.teardown_quiescenLow (id : SessionId) : (s.teardown id).quiescenLow = s.quiescenLow := rfl
@[simp] theorem State.teardown_ports (id : SessionId) : (s.teardown id).ports = s.ports := rfl
@[simp] theorem State.teardown_sessions (id : SessionId) : (s.teardown id).sessions = s.sessions := rfl
@[simp] theorem State.teardown_outputs (id : SessionId) : (s.teardown id).outputs = s.outputs := rfl
@[simp] theorem State.teardown_monitor (id : SessionId) : (s.teardown id).monitor = s.monitor := rfl
@[simp] theorem State.teardown_supervisor (id : SessionId) : (s.teardown id).supervisor = s.supervisor := rfl
@[simp] theorem State.teardown_store (id : SessionId) : (s.teardown id).store = s.store := rfl

@[simp] theorem State.decrementLeases_pending : s.decrementLeases.pending = s.pending := rfl
@[simp] theorem State.decrementLeases_resetHeld : s.decrementLeases.resetHeld = s.resetHeld := rfl
@[simp] theorem State.decrementLeases_quiescenLow : s.decrementLeases.quiescenLow = s.quiescenLow := rfl
@[simp] theorem State.decrementLeases_ports : s.decrementLeases.ports = s.ports := rfl
@[simp] theorem State.decrementLeases_sessions : s.decrementLeases.sessions = s.sessions := rfl
@[simp] theorem State.decrementLeases_attention : s.decrementLeases.attention = s.attention := rfl
@[simp] theorem State.decrementLeases_outputs : s.decrementLeases.outputs = s.outputs := rfl
@[simp] theorem State.decrementLeases_monitor : s.decrementLeases.monitor = s.monitor := rfl
@[simp] theorem State.decrementLeases_supervisor : s.decrementLeases.supervisor = s.supervisor := rfl
@[simp] theorem State.decrementLeases_store : s.decrementLeases.store = s.store := rfl
@[simp] theorem State.decrementLeases_transit : s.decrementLeases.transit = s.transit := rfl

@[simp] theorem State.expire_pending : s.expire.pending = s.pending := rfl
@[simp] theorem State.expire_resetHeld : s.expire.resetHeld = s.resetHeld := rfl
@[simp] theorem State.expire_quiescenLow : s.expire.quiescenLow = s.quiescenLow := rfl
@[simp] theorem State.expire_ports : s.expire.ports = s.ports := rfl
@[simp] theorem State.expire_sessions : s.expire.sessions = s.sessions := rfl
@[simp] theorem State.expire_outputs : s.expire.outputs = s.outputs := rfl
@[simp] theorem State.expire_monitor : s.expire.monitor = s.monitor := rfl
@[simp] theorem State.expire_supervisor : s.expire.supervisor = s.supervisor := rfl
@[simp] theorem State.expire_store : s.expire.store = s.store := rfl

@[simp] theorem State.sweep_pending : s.sweep.pending = s.pending := rfl
@[simp] theorem State.sweep_resetHeld : s.sweep.resetHeld = s.resetHeld := rfl
@[simp] theorem State.sweep_quiescenLow : s.sweep.quiescenLow = s.quiescenLow := rfl
@[simp] theorem State.sweep_ports : s.sweep.ports = s.ports := rfl
@[simp] theorem State.sweep_sessions : s.sweep.sessions = s.sessions := rfl
@[simp] theorem State.sweep_outputs : s.sweep.outputs = s.outputs := rfl
@[simp] theorem State.sweep_monitor : s.sweep.monitor = s.monitor := rfl
@[simp] theorem State.sweep_supervisor : s.sweep.supervisor = s.supervisor := rfl
@[simp] theorem State.sweep_store : s.sweep.store = s.store := rfl

/-! ## Sessions -/

@[simp] theorem State.openSession_pending (slot : Slot) (p : PortId) (q : OpenParams) : (s.openSession slot p q).pending = s.pending := rfl
@[simp] theorem State.openSession_resetHeld (slot : Slot) (p : PortId) (q : OpenParams) : (s.openSession slot p q).resetHeld = s.resetHeld := rfl
@[simp] theorem State.openSession_quiescenLow (slot : Slot) (p : PortId) (q : OpenParams) : (s.openSession slot p q).quiescenLow = s.quiescenLow := rfl
@[simp] theorem State.openSession_ports (slot : Slot) (p : PortId) (q : OpenParams) : (s.openSession slot p q).ports = s.ports := rfl
@[simp] theorem State.openSession_claims (slot : Slot) (p : PortId) (q : OpenParams) : (s.openSession slot p q).claims = s.claims := rfl
@[simp] theorem State.openSession_outputs (slot : Slot) (p : PortId) (q : OpenParams) : (s.openSession slot p q).outputs = s.outputs := rfl
@[simp] theorem State.openSession_monitor (slot : Slot) (p : PortId) (q : OpenParams) : (s.openSession slot p q).monitor = s.monitor := rfl
@[simp] theorem State.openSession_supervisor (slot : Slot) (p : PortId) (q : OpenParams) : (s.openSession slot p q).supervisor = s.supervisor := rfl
@[simp] theorem State.openSession_store (slot : Slot) (p : PortId) (q : OpenParams) : (s.openSession slot p q).store = s.store := rfl
@[simp] theorem State.openSession_transit (slot : Slot) (p : PortId) (q : OpenParams) : (s.openSession slot p q).transit = s.transit := rfl

@[simp] theorem State.endSession_pending (slot : Slot) (info : SessionInfo) (lapses : Bool) : (s.endSession slot info lapses).pending = s.pending := rfl
@[simp] theorem State.endSession_resetHeld (slot : Slot) (info : SessionInfo) (lapses : Bool) : (s.endSession slot info lapses).resetHeld = s.resetHeld := rfl
@[simp] theorem State.endSession_quiescenLow (slot : Slot) (info : SessionInfo) (lapses : Bool) : (s.endSession slot info lapses).quiescenLow = s.quiescenLow := rfl
@[simp] theorem State.endSession_ports (slot : Slot) (info : SessionInfo) (lapses : Bool) : (s.endSession slot info lapses).ports = s.ports := rfl
@[simp] theorem State.endSession_outputs (slot : Slot) (info : SessionInfo) (lapses : Bool) : (s.endSession slot info lapses).outputs = s.outputs := rfl
@[simp] theorem State.endSession_monitor (slot : Slot) (info : SessionInfo) (lapses : Bool) : (s.endSession slot info lapses).monitor = s.monitor := rfl
@[simp] theorem State.endSession_supervisor (slot : Slot) (info : SessionInfo) (lapses : Bool) : (s.endSession slot info lapses).supervisor = s.supervisor := rfl

@[simp] theorem State.decrementKeepalives_pending : s.decrementKeepalives.pending = s.pending := rfl
@[simp] theorem State.decrementKeepalives_resetHeld : s.decrementKeepalives.resetHeld = s.resetHeld := rfl
@[simp] theorem State.decrementKeepalives_quiescenLow : s.decrementKeepalives.quiescenLow = s.quiescenLow := rfl
@[simp] theorem State.decrementKeepalives_ports : s.decrementKeepalives.ports = s.ports := rfl
@[simp] theorem State.decrementKeepalives_claims : s.decrementKeepalives.claims = s.claims := rfl
@[simp] theorem State.decrementKeepalives_attention : s.decrementKeepalives.attention = s.attention := rfl
@[simp] theorem State.decrementKeepalives_outputs : s.decrementKeepalives.outputs = s.outputs := rfl
@[simp] theorem State.decrementKeepalives_monitor : s.decrementKeepalives.monitor = s.monitor := rfl
@[simp] theorem State.decrementKeepalives_supervisor : s.decrementKeepalives.supervisor = s.supervisor := rfl
@[simp] theorem State.decrementKeepalives_store : s.decrementKeepalives.store = s.store := rfl
@[simp] theorem State.decrementKeepalives_transit : s.decrementKeepalives.transit = s.transit := rfl

@[simp] theorem State.lapseSlot_pending (slot : Slot) : (s.lapseSlot slot).pending = s.pending := by
  unfold State.lapseSlot; repeat' split
  all_goals rfl
@[simp] theorem State.lapseSlot_resetHeld (slot : Slot) : (s.lapseSlot slot).resetHeld = s.resetHeld := by
  unfold State.lapseSlot; repeat' split
  all_goals rfl
@[simp] theorem State.lapseSlot_quiescenLow (slot : Slot) : (s.lapseSlot slot).quiescenLow = s.quiescenLow := by
  unfold State.lapseSlot; repeat' split
  all_goals rfl
@[simp] theorem State.lapseSlot_ports (slot : Slot) : (s.lapseSlot slot).ports = s.ports := by
  unfold State.lapseSlot; repeat' split
  all_goals rfl
@[simp] theorem State.lapseSlot_outputs (slot : Slot) : (s.lapseSlot slot).outputs = s.outputs := by
  unfold State.lapseSlot; repeat' split
  all_goals rfl
@[simp] theorem State.lapseSlot_monitor (slot : Slot) : (s.lapseSlot slot).monitor = s.monitor := by
  unfold State.lapseSlot; repeat' split
  all_goals rfl
@[simp] theorem State.lapseSlot_supervisor (slot : Slot) : (s.lapseSlot slot).supervisor = s.supervisor := by
  unfold State.lapseSlot; repeat' split
  all_goals rfl

@[simp] theorem State.lapseSessions_pending : s.lapseSessions.pending = s.pending := by
  simp [State.lapseSessions, List.finRange]
@[simp] theorem State.lapseSessions_resetHeld : s.lapseSessions.resetHeld = s.resetHeld := by
  simp [State.lapseSessions, List.finRange]
@[simp] theorem State.lapseSessions_quiescenLow : s.lapseSessions.quiescenLow = s.quiescenLow := by
  simp [State.lapseSessions, List.finRange]
@[simp] theorem State.lapseSessions_ports : s.lapseSessions.ports = s.ports := by
  simp [State.lapseSessions, List.finRange]
@[simp] theorem State.lapseSessions_outputs : s.lapseSessions.outputs = s.outputs := by
  simp [State.lapseSessions, List.finRange]
@[simp] theorem State.lapseSessions_monitor : s.lapseSessions.monitor = s.monitor := by
  simp [State.lapseSessions, List.finRange]
@[simp] theorem State.lapseSessions_supervisor : s.lapseSessions.supervisor = s.supervisor := by
  simp [State.lapseSessions, List.finRange]

/-! ## Outputs and readback -/

@[simp] theorem State.changeChannels_pending (f : Chan → Channel → Channel) : (s.changeChannels f).pending = s.pending := rfl
@[simp] theorem State.changeChannels_resetHeld (f : Chan → Channel → Channel) : (s.changeChannels f).resetHeld = s.resetHeld := rfl
@[simp] theorem State.changeChannels_quiescenLow (f : Chan → Channel → Channel) : (s.changeChannels f).quiescenLow = s.quiescenLow := rfl
@[simp] theorem State.changeChannels_ports (f : Chan → Channel → Channel) : (s.changeChannels f).ports = s.ports := rfl
@[simp] theorem State.changeChannels_sessions (f : Chan → Channel → Channel) : (s.changeChannels f).sessions = s.sessions := rfl
@[simp] theorem State.changeChannels_claims (f : Chan → Channel → Channel) : (s.changeChannels f).claims = s.claims := rfl
@[simp] theorem State.changeChannels_attention (f : Chan → Channel → Channel) : (s.changeChannels f).attention = s.attention := rfl
@[simp] theorem State.changeChannels_supervisor (f : Chan → Channel → Channel) : (s.changeChannels f).supervisor = s.supervisor := rfl
@[simp] theorem State.changeChannels_store (f : Chan → Channel → Channel) : (s.changeChannels f).store = s.store := rfl
@[simp] theorem State.changeChannels_transit (f : Chan → Channel → Channel) : (s.changeChannels f).transit = s.transit := rfl

@[simp] theorem State.changeChannel_pending (c : Chan) (f : Channel → Channel) : (s.changeChannel c f).pending = s.pending := rfl
@[simp] theorem State.changeChannel_resetHeld (c : Chan) (f : Channel → Channel) : (s.changeChannel c f).resetHeld = s.resetHeld := rfl
@[simp] theorem State.changeChannel_quiescenLow (c : Chan) (f : Channel → Channel) : (s.changeChannel c f).quiescenLow = s.quiescenLow := rfl
@[simp] theorem State.changeChannel_ports (c : Chan) (f : Channel → Channel) : (s.changeChannel c f).ports = s.ports := rfl
@[simp] theorem State.changeChannel_sessions (c : Chan) (f : Channel → Channel) : (s.changeChannel c f).sessions = s.sessions := rfl
@[simp] theorem State.changeChannel_claims (c : Chan) (f : Channel → Channel) : (s.changeChannel c f).claims = s.claims := rfl
@[simp] theorem State.changeChannel_attention (c : Chan) (f : Channel → Channel) : (s.changeChannel c f).attention = s.attention := rfl
@[simp] theorem State.changeChannel_supervisor (c : Chan) (f : Channel → Channel) : (s.changeChannel c f).supervisor = s.supervisor := rfl
@[simp] theorem State.changeChannel_store (c : Chan) (f : Channel → Channel) : (s.changeChannel c f).store = s.store := rfl
@[simp] theorem State.changeChannel_transit (c : Chan) (f : Channel → Channel) : (s.changeChannel c f).transit = s.transit := rfl

@[simp] theorem State.search_pending : s.search.pending = s.pending := by
  unfold State.search; repeat' split
  all_goals rfl
@[simp] theorem State.search_resetHeld : s.search.resetHeld = s.resetHeld := by
  unfold State.search; repeat' split
  all_goals rfl
@[simp] theorem State.search_quiescenLow : s.search.quiescenLow = s.quiescenLow := by
  unfold State.search; repeat' split
  all_goals rfl
@[simp] theorem State.search_ports : s.search.ports = s.ports := by
  unfold State.search; repeat' split
  all_goals rfl
@[simp] theorem State.search_sessions : s.search.sessions = s.sessions := by
  unfold State.search; repeat' split
  all_goals rfl
@[simp] theorem State.search_claims : s.search.claims = s.claims := by
  unfold State.search; repeat' split
  all_goals rfl
@[simp] theorem State.search_attention : s.search.attention = s.attention := by
  unfold State.search; repeat' split
  all_goals rfl
@[simp] theorem State.search_outputs : s.search.outputs = s.outputs := by
  unfold State.search; repeat' split
  all_goals rfl
@[simp] theorem State.search_supervisor : s.search.supervisor = s.supervisor := by
  unfold State.search; repeat' split
  all_goals rfl
@[simp] theorem State.search_store : s.search.store = s.store := by
  unfold State.search; repeat' split
  all_goals rfl
@[simp] theorem State.search_transit : s.search.transit = s.transit := by
  unfold State.search; repeat' split
  all_goals rfl

@[simp] theorem State.takeReport_pending (c : Chan) (r : Report) : (s.takeReport c r).pending = s.pending := rfl
@[simp] theorem State.takeReport_resetHeld (c : Chan) (r : Report) : (s.takeReport c r).resetHeld = s.resetHeld := rfl
@[simp] theorem State.takeReport_quiescenLow (c : Chan) (r : Report) : (s.takeReport c r).quiescenLow = s.quiescenLow := rfl
@[simp] theorem State.takeReport_ports (c : Chan) (r : Report) : (s.takeReport c r).ports = s.ports := rfl
@[simp] theorem State.takeReport_sessions (c : Chan) (r : Report) : (s.takeReport c r).sessions = s.sessions := rfl
@[simp] theorem State.takeReport_claims (c : Chan) (r : Report) : (s.takeReport c r).claims = s.claims := rfl
@[simp] theorem State.takeReport_attention (c : Chan) (r : Report) : (s.takeReport c r).attention = s.attention := rfl
@[simp] theorem State.takeReport_supervisor (c : Chan) (r : Report) : (s.takeReport c r).supervisor = s.supervisor := rfl
@[simp] theorem State.takeReport_store (c : Chan) (r : Report) : (s.takeReport c r).store = s.store := rfl

@[simp] theorem State.takeFaultReport_pending (c : Chan) : (s.takeFaultReport c).pending = s.pending := rfl
@[simp] theorem State.takeFaultReport_resetHeld (c : Chan) : (s.takeFaultReport c).resetHeld = s.resetHeld := rfl
@[simp] theorem State.takeFaultReport_quiescenLow (c : Chan) : (s.takeFaultReport c).quiescenLow = s.quiescenLow := rfl
@[simp] theorem State.takeFaultReport_ports (c : Chan) : (s.takeFaultReport c).ports = s.ports := rfl
@[simp] theorem State.takeFaultReport_sessions (c : Chan) : (s.takeFaultReport c).sessions = s.sessions := rfl
@[simp] theorem State.takeFaultReport_claims (c : Chan) : (s.takeFaultReport c).claims = s.claims := rfl
@[simp] theorem State.takeFaultReport_attention (c : Chan) : (s.takeFaultReport c).attention = s.attention := rfl
@[simp] theorem State.takeFaultReport_supervisor (c : Chan) : (s.takeFaultReport c).supervisor = s.supervisor := rfl
@[simp] theorem State.takeFaultReport_store (c : Chan) : (s.takeFaultReport c).store = s.store := rfl

@[simp] theorem State.clearFault_pending (c : Chan) : (s.clearFault c).pending = s.pending := by simp [State.clearFault]
@[simp] theorem State.clearFault_resetHeld (c : Chan) : (s.clearFault c).resetHeld = s.resetHeld := by simp [State.clearFault]
@[simp] theorem State.clearFault_quiescenLow (c : Chan) : (s.clearFault c).quiescenLow = s.quiescenLow := by simp [State.clearFault]
@[simp] theorem State.clearFault_ports (c : Chan) : (s.clearFault c).ports = s.ports := by simp [State.clearFault]
@[simp] theorem State.clearFault_sessions (c : Chan) : (s.clearFault c).sessions = s.sessions := by simp [State.clearFault]
@[simp] theorem State.clearFault_claims (c : Chan) : (s.clearFault c).claims = s.claims := by simp [State.clearFault]
@[simp] theorem State.clearFault_supervisor (c : Chan) : (s.clearFault c).supervisor = s.supervisor := by simp [State.clearFault]
@[simp] theorem State.clearFault_store (c : Chan) : (s.clearFault c).store = s.store := by simp [State.clearFault]

@[simp] theorem State.quiesce_pending : s.quiesce.pending = s.pending := rfl
@[simp] theorem State.quiesce_resetHeld : s.quiesce.resetHeld = s.resetHeld := rfl
@[simp] theorem State.quiesce_quiescenLow : s.quiesce.quiescenLow = s.quiescenLow := rfl
@[simp] theorem State.quiesce_ports : s.quiesce.ports = s.ports := rfl
@[simp] theorem State.quiesce_sessions : s.quiesce.sessions = s.sessions := rfl
@[simp] theorem State.quiesce_claims : s.quiesce.claims = s.claims := rfl
@[simp] theorem State.quiesce_supervisor : s.quiesce.supervisor = s.supervisor := rfl
@[simp] theorem State.quiesce_store : s.quiesce.store = s.store := rfl
@[simp] theorem State.quiesce_transit : s.quiesce.transit = s.transit := rfl

@[simp] theorem State.unquiesce_pending : s.unquiesce.pending = s.pending := rfl
@[simp] theorem State.unquiesce_resetHeld : s.unquiesce.resetHeld = s.resetHeld := rfl
@[simp] theorem State.unquiesce_quiescenLow : s.unquiesce.quiescenLow = s.quiescenLow := rfl
@[simp] theorem State.unquiesce_ports : s.unquiesce.ports = s.ports := rfl
@[simp] theorem State.unquiesce_sessions : s.unquiesce.sessions = s.sessions := rfl
@[simp] theorem State.unquiesce_claims : s.unquiesce.claims = s.claims := rfl
@[simp] theorem State.unquiesce_supervisor : s.unquiesce.supervisor = s.supervisor := rfl
@[simp] theorem State.unquiesce_store : s.unquiesce.store = s.store := rfl
@[simp] theorem State.unquiesce_transit : s.unquiesce.transit = s.transit := rfl

@[simp] theorem State.evaluate_pending (cv : Conversion) (input : Int) : (s.evaluate cv input).pending = s.pending := by
  dsimp only [State.evaluate]; repeat' split
  all_goals rfl
@[simp] theorem State.evaluate_resetHeld (cv : Conversion) (input : Int) : (s.evaluate cv input).resetHeld = s.resetHeld := by
  dsimp only [State.evaluate]; repeat' split
  all_goals rfl
@[simp] theorem State.evaluate_quiescenLow (cv : Conversion) (input : Int) : (s.evaluate cv input).quiescenLow = s.quiescenLow := by
  dsimp only [State.evaluate]; repeat' split
  all_goals rfl
@[simp] theorem State.evaluate_ports (cv : Conversion) (input : Int) : (s.evaluate cv input).ports = s.ports := by
  dsimp only [State.evaluate]; repeat' split
  all_goals rfl
@[simp] theorem State.evaluate_sessions (cv : Conversion) (input : Int) : (s.evaluate cv input).sessions = s.sessions := by
  dsimp only [State.evaluate]; repeat' split
  all_goals rfl
@[simp] theorem State.evaluate_claims (cv : Conversion) (input : Int) : (s.evaluate cv input).claims = s.claims := by
  dsimp only [State.evaluate]; repeat' split
  all_goals rfl
@[simp] theorem State.evaluate_attention (cv : Conversion) (input : Int) : (s.evaluate cv input).attention = s.attention := by
  dsimp only [State.evaluate]; repeat' split
  all_goals rfl
@[simp] theorem State.evaluate_outputs (cv : Conversion) (input : Int) : (s.evaluate cv input).outputs = s.outputs := by
  dsimp only [State.evaluate]; repeat' split
  all_goals rfl
@[simp] theorem State.evaluate_supervisor (cv : Conversion) (input : Int) : (s.evaluate cv input).supervisor = s.supervisor := by
  dsimp only [State.evaluate]; repeat' split
  all_goals rfl
@[simp] theorem State.evaluate_store (cv : Conversion) (input : Int) : (s.evaluate cv input).store = s.store := by
  dsimp only [State.evaluate]; repeat' split
  all_goals rfl

@[simp] theorem State.rampChannels_pending : s.rampChannels.pending = s.pending := rfl
@[simp] theorem State.rampChannels_resetHeld : s.rampChannels.resetHeld = s.resetHeld := rfl
@[simp] theorem State.rampChannels_quiescenLow : s.rampChannels.quiescenLow = s.quiescenLow := rfl
@[simp] theorem State.rampChannels_ports : s.rampChannels.ports = s.ports := rfl
@[simp] theorem State.rampChannels_sessions : s.rampChannels.sessions = s.sessions := rfl
@[simp] theorem State.rampChannels_claims : s.rampChannels.claims = s.claims := rfl
@[simp] theorem State.rampChannels_attention : s.rampChannels.attention = s.attention := rfl
@[simp] theorem State.rampChannels_supervisor : s.rampChannels.supervisor = s.supervisor := rfl
@[simp] theorem State.rampChannels_store : s.rampChannels.store = s.store := rfl
@[simp] theorem State.rampChannels_transit : s.rampChannels.transit = s.transit := rfl

@[simp] theorem State.searchIfWaiting_pending : s.searchIfWaiting.pending = s.pending := by
  unfold State.searchIfWaiting; repeat' split
  all_goals simp
@[simp] theorem State.searchIfWaiting_resetHeld : s.searchIfWaiting.resetHeld = s.resetHeld := by
  unfold State.searchIfWaiting; repeat' split
  all_goals simp
@[simp] theorem State.searchIfWaiting_quiescenLow : s.searchIfWaiting.quiescenLow = s.quiescenLow := by
  unfold State.searchIfWaiting; repeat' split
  all_goals simp
@[simp] theorem State.searchIfWaiting_ports : s.searchIfWaiting.ports = s.ports := by
  unfold State.searchIfWaiting; repeat' split
  all_goals simp
@[simp] theorem State.searchIfWaiting_sessions : s.searchIfWaiting.sessions = s.sessions := by
  unfold State.searchIfWaiting; repeat' split
  all_goals simp
@[simp] theorem State.searchIfWaiting_claims : s.searchIfWaiting.claims = s.claims := by
  unfold State.searchIfWaiting; repeat' split
  all_goals simp
@[simp] theorem State.searchIfWaiting_attention : s.searchIfWaiting.attention = s.attention := by
  unfold State.searchIfWaiting; repeat' split
  all_goals simp
@[simp] theorem State.searchIfWaiting_outputs : s.searchIfWaiting.outputs = s.outputs := by
  unfold State.searchIfWaiting; repeat' split
  all_goals simp
@[simp] theorem State.searchIfWaiting_supervisor : s.searchIfWaiting.supervisor = s.supervisor := by
  unfold State.searchIfWaiting; repeat' split
  all_goals simp
@[simp] theorem State.searchIfWaiting_store : s.searchIfWaiting.store = s.store := by
  unfold State.searchIfWaiting; repeat' split
  all_goals simp
@[simp] theorem State.searchIfWaiting_transit : s.searchIfWaiting.transit = s.transit := by
  unfold State.searchIfWaiting; repeat' split
  all_goals simp

@[simp] theorem State.enableOutputs_pending (prof : Profile) : (s.enableOutputs prof).pending = s.pending := rfl
@[simp] theorem State.enableOutputs_resetHeld (prof : Profile) : (s.enableOutputs prof).resetHeld = s.resetHeld := rfl
@[simp] theorem State.enableOutputs_quiescenLow (prof : Profile) : (s.enableOutputs prof).quiescenLow = s.quiescenLow := rfl
@[simp] theorem State.enableOutputs_ports (prof : Profile) : (s.enableOutputs prof).ports = s.ports := rfl
@[simp] theorem State.enableOutputs_sessions (prof : Profile) : (s.enableOutputs prof).sessions = s.sessions := rfl
@[simp] theorem State.enableOutputs_claims (prof : Profile) : (s.enableOutputs prof).claims = s.claims := rfl
@[simp] theorem State.enableOutputs_attention (prof : Profile) : (s.enableOutputs prof).attention = s.attention := rfl
@[simp] theorem State.enableOutputs_monitor (prof : Profile) : (s.enableOutputs prof).monitor = s.monitor := rfl
@[simp] theorem State.enableOutputs_supervisor (prof : Profile) : (s.enableOutputs prof).supervisor = s.supervisor := rfl
@[simp] theorem State.enableOutputs_store (prof : Profile) : (s.enableOutputs prof).store = s.store := rfl
@[simp] theorem State.enableOutputs_transit (prof : Profile) : (s.enableOutputs prof).transit = s.transit := rfl

@[simp] theorem State.startMonitor_pending (prof : Profile) : (s.startMonitor prof).pending = s.pending := by simp [State.startMonitor]
@[simp] theorem State.startMonitor_resetHeld (prof : Profile) : (s.startMonitor prof).resetHeld = s.resetHeld := by simp [State.startMonitor]
@[simp] theorem State.startMonitor_quiescenLow (prof : Profile) : (s.startMonitor prof).quiescenLow = s.quiescenLow := by simp [State.startMonitor]
@[simp] theorem State.startMonitor_ports (prof : Profile) : (s.startMonitor prof).ports = s.ports := by simp [State.startMonitor]
@[simp] theorem State.startMonitor_sessions (prof : Profile) : (s.startMonitor prof).sessions = s.sessions := by simp [State.startMonitor]
@[simp] theorem State.startMonitor_claims (prof : Profile) : (s.startMonitor prof).claims = s.claims := by simp [State.startMonitor]
@[simp] theorem State.startMonitor_attention (prof : Profile) : (s.startMonitor prof).attention = s.attention := by simp [State.startMonitor]
@[simp] theorem State.startMonitor_outputs (prof : Profile) : (s.startMonitor prof).outputs = s.outputs := by simp [State.startMonitor]
@[simp] theorem State.startMonitor_supervisor (prof : Profile) : (s.startMonitor prof).supervisor = s.supervisor := by simp [State.startMonitor]
@[simp] theorem State.startMonitor_store (prof : Profile) : (s.startMonitor prof).store = s.store := by simp [State.startMonitor]
@[simp] theorem State.startMonitor_transit (prof : Profile) : (s.startMonitor prof).transit = s.transit := by simp [State.startMonitor]

@[simp] theorem State.activateOutputs_pending (prof : Profile) : (s.activateOutputs prof).pending = s.pending := rfl
@[simp] theorem State.activateOutputs_resetHeld (prof : Profile) : (s.activateOutputs prof).resetHeld = s.resetHeld := rfl
@[simp] theorem State.activateOutputs_quiescenLow (prof : Profile) : (s.activateOutputs prof).quiescenLow = s.quiescenLow := rfl
@[simp] theorem State.activateOutputs_ports (prof : Profile) : (s.activateOutputs prof).ports = s.ports := rfl
@[simp] theorem State.activateOutputs_sessions (prof : Profile) : (s.activateOutputs prof).sessions = s.sessions := rfl
@[simp] theorem State.activateOutputs_claims (prof : Profile) : (s.activateOutputs prof).claims = s.claims := rfl
@[simp] theorem State.activateOutputs_attention (prof : Profile) : (s.activateOutputs prof).attention = s.attention := rfl
@[simp] theorem State.activateOutputs_supervisor (prof : Profile) : (s.activateOutputs prof).supervisor = s.supervisor := rfl
@[simp] theorem State.activateOutputs_store (prof : Profile) : (s.activateOutputs prof).store = s.store := rfl
@[simp] theorem State.activateOutputs_transit (prof : Profile) : (s.activateOutputs prof).transit = s.transit := rfl

@[simp] theorem State.activateMonitor_pending (prof : Profile) : (s.activateMonitor prof).pending = s.pending := by simp [State.activateMonitor]
@[simp] theorem State.activateMonitor_resetHeld (prof : Profile) : (s.activateMonitor prof).resetHeld = s.resetHeld := by simp [State.activateMonitor]
@[simp] theorem State.activateMonitor_quiescenLow (prof : Profile) : (s.activateMonitor prof).quiescenLow = s.quiescenLow := by simp [State.activateMonitor]
@[simp] theorem State.activateMonitor_ports (prof : Profile) : (s.activateMonitor prof).ports = s.ports := by simp [State.activateMonitor]
@[simp] theorem State.activateMonitor_sessions (prof : Profile) : (s.activateMonitor prof).sessions = s.sessions := by simp [State.activateMonitor]
@[simp] theorem State.activateMonitor_claims (prof : Profile) : (s.activateMonitor prof).claims = s.claims := by simp [State.activateMonitor]
@[simp] theorem State.activateMonitor_attention (prof : Profile) : (s.activateMonitor prof).attention = s.attention := by simp [State.activateMonitor]
@[simp] theorem State.activateMonitor_outputs (prof : Profile) : (s.activateMonitor prof).outputs = s.outputs := by simp [State.activateMonitor]
@[simp] theorem State.activateMonitor_supervisor (prof : Profile) : (s.activateMonitor prof).supervisor = s.supervisor := by simp [State.activateMonitor]
@[simp] theorem State.activateMonitor_store (prof : Profile) : (s.activateMonitor prof).store = s.store := by simp [State.activateMonitor]
@[simp] theorem State.activateMonitor_transit (prof : Profile) : (s.activateMonitor prof).transit = s.transit := by simp [State.activateMonitor]

@[simp] theorem State.carrierPeriod_pending : s.carrierPeriod.pending = s.pending := rfl
@[simp] theorem State.carrierPeriod_resetHeld : s.carrierPeriod.resetHeld = s.resetHeld := rfl
@[simp] theorem State.carrierPeriod_quiescenLow : s.carrierPeriod.quiescenLow = s.quiescenLow := rfl
@[simp] theorem State.carrierPeriod_ports : s.carrierPeriod.ports = s.ports := rfl
@[simp] theorem State.carrierPeriod_sessions : s.carrierPeriod.sessions = s.sessions := rfl
@[simp] theorem State.carrierPeriod_claims : s.carrierPeriod.claims = s.claims := rfl
@[simp] theorem State.carrierPeriod_attention : s.carrierPeriod.attention = s.attention := rfl
@[simp] theorem State.carrierPeriod_monitor : s.carrierPeriod.monitor = s.monitor := rfl
@[simp] theorem State.carrierPeriod_supervisor : s.carrierPeriod.supervisor = s.supervisor := rfl
@[simp] theorem State.carrierPeriod_store : s.carrierPeriod.store = s.store := rfl
@[simp] theorem State.carrierPeriod_transit : s.carrierPeriod.transit = s.transit := rfl

/-! ## Timebase -/

@[simp] theorem State.enterLocked_pending : s.enterLocked.pending = s.pending := rfl
@[simp] theorem State.enterLocked_resetHeld : s.enterLocked.resetHeld = s.resetHeld := rfl
@[simp] theorem State.enterLocked_quiescenLow : s.enterLocked.quiescenLow = s.quiescenLow := rfl
@[simp] theorem State.enterLocked_ports : s.enterLocked.ports = s.ports := rfl
@[simp] theorem State.enterLocked_sessions : s.enterLocked.sessions = s.sessions := rfl
@[simp] theorem State.enterLocked_claims : s.enterLocked.claims = s.claims := rfl
@[simp] theorem State.enterLocked_outputs : s.enterLocked.outputs = s.outputs := rfl
@[simp] theorem State.enterLocked_monitor : s.enterLocked.monitor = s.monitor := rfl
@[simp] theorem State.enterLocked_store : s.enterLocked.store = s.store := rfl
@[simp] theorem State.enterLocked_transit : s.enterLocked.transit = s.transit := rfl

@[simp] theorem State.enterHoldover_pending : s.enterHoldover.pending = s.pending := rfl
@[simp] theorem State.enterHoldover_resetHeld : s.enterHoldover.resetHeld = s.resetHeld := rfl
@[simp] theorem State.enterHoldover_quiescenLow : s.enterHoldover.quiescenLow = s.quiescenLow := rfl
@[simp] theorem State.enterHoldover_ports : s.enterHoldover.ports = s.ports := rfl
@[simp] theorem State.enterHoldover_sessions : s.enterHoldover.sessions = s.sessions := rfl
@[simp] theorem State.enterHoldover_claims : s.enterHoldover.claims = s.claims := rfl
@[simp] theorem State.enterHoldover_outputs : s.enterHoldover.outputs = s.outputs := rfl
@[simp] theorem State.enterHoldover_monitor : s.enterHoldover.monitor = s.monitor := rfl
@[simp] theorem State.enterHoldover_store : s.enterHoldover.store = s.store := rfl
@[simp] theorem State.enterHoldover_transit :
    s.enterHoldover.transit = { s.transit with ticks := { s.transit.ticks with supervisor := 0 } } := rfl

@[simp] theorem State.enterLapsed_pending : s.enterLapsed.pending = s.pending := rfl
@[simp] theorem State.enterLapsed_resetHeld : s.enterLapsed.resetHeld = s.resetHeld := rfl
@[simp] theorem State.enterLapsed_quiescenLow : s.enterLapsed.quiescenLow = s.quiescenLow := rfl
@[simp] theorem State.enterLapsed_ports : s.enterLapsed.ports = s.ports := rfl
@[simp] theorem State.enterLapsed_sessions : s.enterLapsed.sessions = s.sessions := rfl
@[simp] theorem State.enterLapsed_outputs : s.enterLapsed.outputs = s.outputs := rfl
@[simp] theorem State.enterLapsed_monitor : s.enterLapsed.monitor = s.monitor := rfl
@[simp] theorem State.enterLapsed_store : s.enterLapsed.store = s.store := rfl

@[simp] theorem State.windowEnd_pending : s.windowEnd.pending = s.pending := by
  dsimp only [State.windowEnd]; repeat' split
  all_goals rfl
@[simp] theorem State.windowEnd_resetHeld : s.windowEnd.resetHeld = s.resetHeld := by
  dsimp only [State.windowEnd]; repeat' split
  all_goals rfl
@[simp] theorem State.windowEnd_quiescenLow : s.windowEnd.quiescenLow = s.quiescenLow := by
  dsimp only [State.windowEnd]; repeat' split
  all_goals rfl
@[simp] theorem State.windowEnd_ports : s.windowEnd.ports = s.ports := by
  dsimp only [State.windowEnd]; repeat' split
  all_goals rfl
@[simp] theorem State.windowEnd_sessions : s.windowEnd.sessions = s.sessions := by
  dsimp only [State.windowEnd]; repeat' split
  all_goals rfl
@[simp] theorem State.windowEnd_claims : s.windowEnd.claims = s.claims := by
  dsimp only [State.windowEnd]; repeat' split
  all_goals rfl
@[simp] theorem State.windowEnd_outputs : s.windowEnd.outputs = s.outputs := by
  dsimp only [State.windowEnd]; repeat' split
  all_goals rfl
@[simp] theorem State.windowEnd_monitor : s.windowEnd.monitor = s.monitor := by
  dsimp only [State.windowEnd]; repeat' split
  all_goals rfl
@[simp] theorem State.windowEnd_store : s.windowEnd.store = s.store := by
  dsimp only [State.windowEnd]; repeat' split
  all_goals rfl
@[simp] theorem State.windowEnd_reports : s.windowEnd.transit.reports = s.transit.reports := by
  dsimp only [State.windowEnd]; repeat' split
  all_goals rfl
@[simp] theorem State.windowEnd_faultReports : s.windowEnd.transit.faultReports = s.transit.faultReports := by
  dsimp only [State.windowEnd]; repeat' split
  all_goals rfl
@[simp] theorem State.windowEnd_faultNotices : s.windowEnd.transit.faultNotices = s.transit.faultNotices := by
  dsimp only [State.windowEnd]; repeat' split
  all_goals rfl

@[simp] theorem State.produceTick_pending : s.produceTick.pending = s.pending := rfl
@[simp] theorem State.produceTick_resetHeld : s.produceTick.resetHeld = s.resetHeld := rfl
@[simp] theorem State.produceTick_quiescenLow : s.produceTick.quiescenLow = s.quiescenLow := rfl
@[simp] theorem State.produceTick_ports : s.produceTick.ports = s.ports := rfl
@[simp] theorem State.produceTick_sessions : s.produceTick.sessions = s.sessions := rfl
@[simp] theorem State.produceTick_claims : s.produceTick.claims = s.claims := rfl
@[simp] theorem State.produceTick_attention : s.produceTick.attention = s.attention := rfl
@[simp] theorem State.produceTick_outputs : s.produceTick.outputs = s.outputs := rfl
@[simp] theorem State.produceTick_monitor : s.produceTick.monitor = s.monitor := rfl
@[simp] theorem State.produceTick_store : s.produceTick.store = s.store := rfl

@[simp] theorem State.countDivider_pending (source : TickSource) : (s.countDivider source).pending = s.pending := by
  unfold State.countDivider; repeat' split
  all_goals rfl
@[simp] theorem State.countDivider_resetHeld (source : TickSource) : (s.countDivider source).resetHeld = s.resetHeld := by
  unfold State.countDivider; repeat' split
  all_goals rfl
@[simp] theorem State.countDivider_quiescenLow (source : TickSource) : (s.countDivider source).quiescenLow = s.quiescenLow := by
  unfold State.countDivider; repeat' split
  all_goals rfl
@[simp] theorem State.countDivider_ports (source : TickSource) : (s.countDivider source).ports = s.ports := by
  unfold State.countDivider; repeat' split
  all_goals rfl
@[simp] theorem State.countDivider_sessions (source : TickSource) : (s.countDivider source).sessions = s.sessions := by
  unfold State.countDivider; repeat' split
  all_goals rfl
@[simp] theorem State.countDivider_claims (source : TickSource) : (s.countDivider source).claims = s.claims := by
  unfold State.countDivider; repeat' split
  all_goals rfl
@[simp] theorem State.countDivider_attention (source : TickSource) : (s.countDivider source).attention = s.attention := by
  unfold State.countDivider; repeat' split
  all_goals rfl
@[simp] theorem State.countDivider_outputs (source : TickSource) : (s.countDivider source).outputs = s.outputs := by
  unfold State.countDivider; repeat' split
  all_goals rfl
@[simp] theorem State.countDivider_monitor (source : TickSource) : (s.countDivider source).monitor = s.monitor := by
  unfold State.countDivider; repeat' split
  all_goals rfl
@[simp] theorem State.countDivider_store (source : TickSource) : (s.countDivider source).store = s.store := by
  unfold State.countDivider; repeat' split
  all_goals rfl

@[simp] theorem State.decrementHoldover_pending : s.decrementHoldover.pending = s.pending := rfl
@[simp] theorem State.decrementHoldover_resetHeld : s.decrementHoldover.resetHeld = s.resetHeld := rfl
@[simp] theorem State.decrementHoldover_quiescenLow : s.decrementHoldover.quiescenLow = s.quiescenLow := rfl
@[simp] theorem State.decrementHoldover_ports : s.decrementHoldover.ports = s.ports := rfl
@[simp] theorem State.decrementHoldover_sessions : s.decrementHoldover.sessions = s.sessions := rfl
@[simp] theorem State.decrementHoldover_claims : s.decrementHoldover.claims = s.claims := rfl
@[simp] theorem State.decrementHoldover_attention : s.decrementHoldover.attention = s.attention := rfl
@[simp] theorem State.decrementHoldover_outputs : s.decrementHoldover.outputs = s.outputs := rfl
@[simp] theorem State.decrementHoldover_monitor : s.decrementHoldover.monitor = s.monitor := rfl
@[simp] theorem State.decrementHoldover_store : s.decrementHoldover.store = s.store := rfl
@[simp] theorem State.decrementHoldover_transit : s.decrementHoldover.transit = s.transit := rfl

@[simp] theorem State.lapseIfOut_pending : s.lapseIfOut.pending = s.pending := by
  unfold State.lapseIfOut; repeat' split
  all_goals rfl
@[simp] theorem State.lapseIfOut_resetHeld : s.lapseIfOut.resetHeld = s.resetHeld := by
  unfold State.lapseIfOut; repeat' split
  all_goals rfl
@[simp] theorem State.lapseIfOut_quiescenLow : s.lapseIfOut.quiescenLow = s.quiescenLow := by
  unfold State.lapseIfOut; repeat' split
  all_goals rfl
@[simp] theorem State.lapseIfOut_ports : s.lapseIfOut.ports = s.ports := by
  unfold State.lapseIfOut; repeat' split
  all_goals rfl
@[simp] theorem State.lapseIfOut_sessions : s.lapseIfOut.sessions = s.sessions := by
  unfold State.lapseIfOut; repeat' split
  all_goals rfl
@[simp] theorem State.lapseIfOut_outputs : s.lapseIfOut.outputs = s.outputs := by
  unfold State.lapseIfOut; repeat' split
  all_goals rfl
@[simp] theorem State.lapseIfOut_monitor : s.lapseIfOut.monitor = s.monitor := by
  unfold State.lapseIfOut; repeat' split
  all_goals rfl
@[simp] theorem State.lapseIfOut_store : s.lapseIfOut.store = s.store := by
  unfold State.lapseIfOut; repeat' split
  all_goals rfl

@[simp] theorem State.startSupervisor_pending (prof : Profile) : (s.startSupervisor prof).pending = s.pending := by
  dsimp only [State.startSupervisor]; repeat' split
  all_goals rfl
@[simp] theorem State.startSupervisor_resetHeld (prof : Profile) : (s.startSupervisor prof).resetHeld = s.resetHeld := by
  dsimp only [State.startSupervisor]; repeat' split
  all_goals rfl
@[simp] theorem State.startSupervisor_quiescenLow (prof : Profile) : (s.startSupervisor prof).quiescenLow = s.quiescenLow := by
  dsimp only [State.startSupervisor]; repeat' split
  all_goals rfl
@[simp] theorem State.startSupervisor_ports (prof : Profile) : (s.startSupervisor prof).ports = s.ports := by
  dsimp only [State.startSupervisor]; repeat' split
  all_goals rfl
@[simp] theorem State.startSupervisor_sessions (prof : Profile) : (s.startSupervisor prof).sessions = s.sessions := by
  dsimp only [State.startSupervisor]; repeat' split
  all_goals rfl
@[simp] theorem State.startSupervisor_claims (prof : Profile) : (s.startSupervisor prof).claims = s.claims := by
  dsimp only [State.startSupervisor]; repeat' split
  all_goals rfl
@[simp] theorem State.startSupervisor_outputs (prof : Profile) : (s.startSupervisor prof).outputs = s.outputs := by
  dsimp only [State.startSupervisor]; repeat' split
  all_goals rfl
@[simp] theorem State.startSupervisor_monitor (prof : Profile) : (s.startSupervisor prof).monitor = s.monitor := by
  dsimp only [State.startSupervisor]; repeat' split
  all_goals rfl
@[simp] theorem State.startSupervisor_store (prof : Profile) : (s.startSupervisor prof).store = s.store := by
  dsimp only [State.startSupervisor]; repeat' split
  all_goals rfl
@[simp] theorem State.startSupervisor_transit (prof : Profile) : (s.startSupervisor prof).transit = s.transit := by
  dsimp only [State.startSupervisor]; repeat' split
  all_goals rfl

@[simp] theorem State.activateSupervisor_pending (prof : Profile) : (s.activateSupervisor prof).pending = s.pending := rfl
@[simp] theorem State.activateSupervisor_resetHeld (prof : Profile) : (s.activateSupervisor prof).resetHeld = s.resetHeld := rfl
@[simp] theorem State.activateSupervisor_quiescenLow (prof : Profile) : (s.activateSupervisor prof).quiescenLow = s.quiescenLow := rfl
@[simp] theorem State.activateSupervisor_ports (prof : Profile) : (s.activateSupervisor prof).ports = s.ports := rfl
@[simp] theorem State.activateSupervisor_sessions (prof : Profile) : (s.activateSupervisor prof).sessions = s.sessions := rfl
@[simp] theorem State.activateSupervisor_claims (prof : Profile) : (s.activateSupervisor prof).claims = s.claims := rfl
@[simp] theorem State.activateSupervisor_attention (prof : Profile) : (s.activateSupervisor prof).attention = s.attention := rfl
@[simp] theorem State.activateSupervisor_outputs (prof : Profile) : (s.activateSupervisor prof).outputs = s.outputs := rfl
@[simp] theorem State.activateSupervisor_monitor (prof : Profile) : (s.activateSupervisor prof).monitor = s.monitor := rfl
@[simp] theorem State.activateSupervisor_store (prof : Profile) : (s.activateSupervisor prof).store = s.store := rfl
@[simp] theorem State.activateSupervisor_transit (prof : Profile) : (s.activateSupervisor prof).transit = s.transit := rfl

@[simp] theorem State.windowPeriod_pending : s.windowPeriod.pending = s.pending := by
  unfold State.windowPeriod; repeat' split
  all_goals simp
@[simp] theorem State.windowPeriod_resetHeld : s.windowPeriod.resetHeld = s.resetHeld := by
  unfold State.windowPeriod; repeat' split
  all_goals simp
@[simp] theorem State.windowPeriod_quiescenLow : s.windowPeriod.quiescenLow = s.quiescenLow := by
  unfold State.windowPeriod; repeat' split
  all_goals simp
@[simp] theorem State.windowPeriod_ports : s.windowPeriod.ports = s.ports := by
  unfold State.windowPeriod; repeat' split
  all_goals simp
@[simp] theorem State.windowPeriod_sessions : s.windowPeriod.sessions = s.sessions := by
  unfold State.windowPeriod; repeat' split
  all_goals simp
@[simp] theorem State.windowPeriod_claims : s.windowPeriod.claims = s.claims := by
  unfold State.windowPeriod; repeat' split
  all_goals simp
@[simp] theorem State.windowPeriod_outputs : s.windowPeriod.outputs = s.outputs := by
  unfold State.windowPeriod; repeat' split
  all_goals simp
@[simp] theorem State.windowPeriod_monitor : s.windowPeriod.monitor = s.monitor := by
  unfold State.windowPeriod; repeat' split
  all_goals simp
@[simp] theorem State.windowPeriod_store : s.windowPeriod.store = s.store := by
  unfold State.windowPeriod; repeat' split
  all_goals simp
@[simp] theorem State.windowPeriod_reports : s.windowPeriod.transit.reports = s.transit.reports := by
  unfold State.windowPeriod; repeat' split
  all_goals simp
@[simp] theorem State.windowPeriod_faultReports : s.windowPeriod.transit.faultReports = s.transit.faultReports := by
  unfold State.windowPeriod; repeat' split
  all_goals simp
@[simp] theorem State.windowPeriod_faultNotices : s.windowPeriod.transit.faultNotices = s.transit.faultNotices := by
  unfold State.windowPeriod; repeat' split
  all_goals simp

@[simp] theorem State.internalPeriod_pending : s.internalPeriod.pending = s.pending := by
  unfold State.internalPeriod; repeat' split
  all_goals simp
@[simp] theorem State.internalPeriod_resetHeld : s.internalPeriod.resetHeld = s.resetHeld := by
  unfold State.internalPeriod; repeat' split
  all_goals simp
@[simp] theorem State.internalPeriod_quiescenLow : s.internalPeriod.quiescenLow = s.quiescenLow := by
  unfold State.internalPeriod; repeat' split
  all_goals simp
@[simp] theorem State.internalPeriod_ports : s.internalPeriod.ports = s.ports := by
  unfold State.internalPeriod; repeat' split
  all_goals simp
@[simp] theorem State.internalPeriod_sessions : s.internalPeriod.sessions = s.sessions := by
  unfold State.internalPeriod; repeat' split
  all_goals simp
@[simp] theorem State.internalPeriod_claims : s.internalPeriod.claims = s.claims := by
  unfold State.internalPeriod; repeat' split
  all_goals simp
@[simp] theorem State.internalPeriod_monitor : s.internalPeriod.monitor = s.monitor := by
  unfold State.internalPeriod; repeat' split
  all_goals simp
@[simp] theorem State.internalPeriod_store : s.internalPeriod.store = s.store := by
  unfold State.internalPeriod; repeat' split
  all_goals simp

/-! ## Profile store -/

@[simp] theorem State.stage_pending (f : ProfileField) (c : Chan) (v : Nat) : (s.stage f c v).pending = s.pending := rfl
@[simp] theorem State.stage_resetHeld (f : ProfileField) (c : Chan) (v : Nat) : (s.stage f c v).resetHeld = s.resetHeld := rfl
@[simp] theorem State.stage_quiescenLow (f : ProfileField) (c : Chan) (v : Nat) : (s.stage f c v).quiescenLow = s.quiescenLow := rfl
@[simp] theorem State.stage_ports (f : ProfileField) (c : Chan) (v : Nat) : (s.stage f c v).ports = s.ports := rfl
@[simp] theorem State.stage_sessions (f : ProfileField) (c : Chan) (v : Nat) : (s.stage f c v).sessions = s.sessions := rfl
@[simp] theorem State.stage_claims (f : ProfileField) (c : Chan) (v : Nat) : (s.stage f c v).claims = s.claims := rfl
@[simp] theorem State.stage_attention (f : ProfileField) (c : Chan) (v : Nat) : (s.stage f c v).attention = s.attention := rfl
@[simp] theorem State.stage_outputs (f : ProfileField) (c : Chan) (v : Nat) : (s.stage f c v).outputs = s.outputs := rfl
@[simp] theorem State.stage_monitor (f : ProfileField) (c : Chan) (v : Nat) : (s.stage f c v).monitor = s.monitor := rfl
@[simp] theorem State.stage_supervisor (f : ProfileField) (c : Chan) (v : Nat) : (s.stage f c v).supervisor = s.supervisor := rfl
@[simp] theorem State.stage_transit (f : ProfileField) (c : Chan) (v : Nat) : (s.stage f c v).transit = s.transit := rfl

@[simp] theorem State.discardStaging_pending : s.discardStaging.pending = s.pending := rfl
@[simp] theorem State.discardStaging_resetHeld : s.discardStaging.resetHeld = s.resetHeld := rfl
@[simp] theorem State.discardStaging_quiescenLow : s.discardStaging.quiescenLow = s.quiescenLow := rfl
@[simp] theorem State.discardStaging_ports : s.discardStaging.ports = s.ports := rfl
@[simp] theorem State.discardStaging_sessions : s.discardStaging.sessions = s.sessions := rfl
@[simp] theorem State.discardStaging_claims : s.discardStaging.claims = s.claims := rfl
@[simp] theorem State.discardStaging_attention : s.discardStaging.attention = s.attention := rfl
@[simp] theorem State.discardStaging_outputs : s.discardStaging.outputs = s.outputs := rfl
@[simp] theorem State.discardStaging_monitor : s.discardStaging.monitor = s.monitor := rfl
@[simp] theorem State.discardStaging_supervisor : s.discardStaging.supervisor = s.supervisor := rfl
@[simp] theorem State.discardStaging_transit : s.discardStaging.transit = s.transit := rfl

@[simp] theorem State.acceptCommit_pending : s.acceptCommit.pending = s.pending := rfl
@[simp] theorem State.acceptCommit_resetHeld : s.acceptCommit.resetHeld = s.resetHeld := rfl
@[simp] theorem State.acceptCommit_quiescenLow : s.acceptCommit.quiescenLow = s.quiescenLow := rfl
@[simp] theorem State.acceptCommit_ports : s.acceptCommit.ports = s.ports := rfl
@[simp] theorem State.acceptCommit_sessions : s.acceptCommit.sessions = s.sessions := rfl
@[simp] theorem State.acceptCommit_claims : s.acceptCommit.claims = s.claims := rfl
@[simp] theorem State.acceptCommit_attention : s.acceptCommit.attention = s.attention := rfl
@[simp] theorem State.acceptCommit_outputs : s.acceptCommit.outputs = s.outputs := rfl
@[simp] theorem State.acceptCommit_monitor : s.acceptCommit.monitor = s.monitor := rfl
@[simp] theorem State.acceptCommit_supervisor : s.acceptCommit.supervisor = s.supervisor := rfl
@[simp] theorem State.acceptCommit_transit : s.acceptCommit.transit = s.transit := rfl

@[simp] theorem State.deliver_pending (prof : Profile) (order : ActivationOrder) : (s.deliver prof order).pending = s.pending := by cases order <;> simp [State.deliver]
@[simp] theorem State.deliver_resetHeld (prof : Profile) (order : ActivationOrder) : (s.deliver prof order).resetHeld = s.resetHeld := by cases order <;> simp [State.deliver]
@[simp] theorem State.deliver_quiescenLow (prof : Profile) (order : ActivationOrder) : (s.deliver prof order).quiescenLow = s.quiescenLow := by cases order <;> simp [State.deliver]
@[simp] theorem State.deliver_ports (prof : Profile) (order : ActivationOrder) : (s.deliver prof order).ports = s.ports := by cases order <;> simp [State.deliver]
@[simp] theorem State.deliver_sessions (prof : Profile) (order : ActivationOrder) : (s.deliver prof order).sessions = s.sessions := by cases order <;> simp [State.deliver]
@[simp] theorem State.deliver_claims (prof : Profile) (order : ActivationOrder) : (s.deliver prof order).claims = s.claims := by cases order <;> simp [State.deliver]
@[simp] theorem State.deliver_attention (prof : Profile) (order : ActivationOrder) : (s.deliver prof order).attention = s.attention := by cases order <;> simp [State.deliver]
@[simp] theorem State.deliver_store (prof : Profile) (order : ActivationOrder) : (s.deliver prof order).store = s.store := by cases order <;> simp [State.deliver]
@[simp] theorem State.deliver_transit (prof : Profile) (order : ActivationOrder) : (s.deliver prof order).transit = s.transit := by cases order <;> simp [State.deliver]

@[simp] theorem State.completeCommit_pending (cm : Commit) (written : List Byte) (order : ActivationOrder) : (s.completeCommit cm written order).pending = s.pending := by
  unfold State.completeCommit; repeat' split
  all_goals simp
@[simp] theorem State.completeCommit_resetHeld (cm : Commit) (written : List Byte) (order : ActivationOrder) : (s.completeCommit cm written order).resetHeld = s.resetHeld := by
  unfold State.completeCommit; repeat' split
  all_goals simp
@[simp] theorem State.completeCommit_quiescenLow (cm : Commit) (written : List Byte) (order : ActivationOrder) : (s.completeCommit cm written order).quiescenLow = s.quiescenLow := by
  unfold State.completeCommit; repeat' split
  all_goals simp
@[simp] theorem State.completeCommit_ports (cm : Commit) (written : List Byte) (order : ActivationOrder) : (s.completeCommit cm written order).ports = s.ports := by
  unfold State.completeCommit; repeat' split
  all_goals simp
@[simp] theorem State.completeCommit_sessions (cm : Commit) (written : List Byte) (order : ActivationOrder) : (s.completeCommit cm written order).sessions = s.sessions := by
  unfold State.completeCommit; repeat' split
  all_goals simp
@[simp] theorem State.completeCommit_claims (cm : Commit) (written : List Byte) (order : ActivationOrder) : (s.completeCommit cm written order).claims = s.claims := by
  unfold State.completeCommit; repeat' split
  all_goals simp
@[simp] theorem State.completeCommit_transit (cm : Commit) (written : List Byte) (order : ActivationOrder) : (s.completeCommit cm written order).transit = s.transit := by
  unfold State.completeCommit; repeat' split
  all_goals simp

@[simp] theorem State.completeLoad_pending (choice : LoadChoice) : (s.completeLoad choice).pending = s.pending := by simp [State.completeLoad]
@[simp] theorem State.completeLoad_resetHeld (choice : LoadChoice) : (s.completeLoad choice).resetHeld = s.resetHeld := by simp [State.completeLoad]
@[simp] theorem State.completeLoad_quiescenLow (choice : LoadChoice) : (s.completeLoad choice).quiescenLow = s.quiescenLow := by simp [State.completeLoad]
@[simp] theorem State.completeLoad_sessions (choice : LoadChoice) : (s.completeLoad choice).sessions = s.sessions := by simp [State.completeLoad]
@[simp] theorem State.completeLoad_claims (choice : LoadChoice) : (s.completeLoad choice).claims = s.claims := by simp [State.completeLoad]
@[simp] theorem State.completeLoad_transit (choice : LoadChoice) : (s.completeLoad choice).transit = s.transit := by simp [State.completeLoad]

end Sys2Proof.Machine
end

