-- ==== Sys2Proof/Laws/Ops.lean ====
section
/-! SUPPORT. What each shared operation does, said once: ports, attention lists, holder stacks, reports in transit,
channel records, the readback monitor's search. -/

namespace Sys2Proof.Machine

/-- Two states with the same fields are the same state. -/
theorem State.same {s t : State} (h1 : s.pending = t.pending) (h2 : s.resetHeld = t.resetHeld)
    (h3 : s.quiescenLow = t.quiescenLow) (h4 : s.ports = t.ports) (h5 : s.sessions = t.sessions)
    (h6 : s.claims = t.claims) (h7 : s.attention = t.attention) (h8 : s.outputs = t.outputs)
    (h9 : s.monitor = t.monitor) (h10 : s.supervisor = t.supervisor) (h11 : s.store = t.store)
    (h12 : s.transit = t.transit) : s = t := by
  cases s; cases t; simp_all

/-! ## Ports -/

@[simp] theorem State.modifyPort_ports (s : State) (p : PortId) (f : Port → Port) :
    (s.modifyPort p f).ports = s.ports.modify p f := rfl

@[simp] theorem State.answer_ports (s : State) (p : PortId) (code : Byte) (reply : Reply) :
    (s.answer p code reply).ports
      = s.ports.modify p fun q => { q with produced := some (code :: reply.result.code :: reply.payload) } := rfl

theorem Ports.get_modify (ps : Ports) (p q : PortId) (f : Port → Port) :
    (ps.modify p f).get q = if q = p then f (ps.get p) else ps.get q := by
  cases p <;> cases q <;> simp [Ports.modify, Ports.get]

theorem Ports.modify_congr (ps : Ports) (p : PortId) (f g : Port → Port) (h : f (ps.get p) = g (ps.get p)) :
    ps.modify p f = ps.modify p g := by
  cases p <;> simp_all [Ports.modify, Ports.get]

theorem Ports.modify_modify (ps : Ports) (p : PortId) (f g : Port → Port) :
    (ps.modify p f).modify p g = ps.modify p fun q => g (f q) := by
  cases p <;> rfl

theorem Ports.modify_id (ps : Ports) (p : PortId) : ps.modify p (fun q => q) = ps := by
  cases p <;> rfl

/-! ## Attention lists -/

/-- R67: the reasons join the record's entry where the list holds one, and otherwise a new entry stands at the tail. -/
theorem addReasons_spec (h : ClaimHandle) (why : ReasonSet) (l : List Entry) :
    ((∀ e ∈ l, e.isFor h.index = false) ∧ addReasons h why l = l ++ [.claim h why])
      ∨ ∃ a h' rs b, l = a ++ .claim h' rs :: b ∧ h'.index = h.index ∧ (∀ e ∈ a, e.isFor h.index = false)
          ∧ addReasons h why l = a ++ .claim h' (rs ||| why) :: b := by
  induction l with
  | nil => left; simp [addReasons]
  | cons e l ih =>
    cases e with
    | device k =>
      rcases ih with ⟨h1, h2⟩ | ⟨a, h', rs, b, h1, h2, h3, h4⟩
      · left; exact ⟨by simpa [Entry.isFor] using h1, by simp [addReasons, h2]⟩
      · right
        exact ⟨.device k :: a, h', rs, b, by simp [h1], h2, by simpa [Entry.isFor] using h3, by simp [addReasons, h4]⟩
    | claim h' rs =>
      by_cases hi : h'.index = h.index
      · right; exact ⟨[], h', rs, l, rfl, hi, by simp, by simp [addReasons, hi]⟩
      · rcases ih with ⟨h1, h2⟩ | ⟨a, h'', rs', b, h1, h2, h3, h4⟩
        · left; exact ⟨by simpa [Entry.isFor, hi] using h1, by simp [addReasons, h2, hi]⟩
        · right
          exact ⟨.claim h' rs :: a, h'', rs', b, by simp [h1], h2, by simpa [Entry.isFor, hi] using h3,
            by simp [addReasons, h4, hi]⟩

/-- R67: one notice changes the list of the record's owner alone. -/
theorem Attention.notice_get (t : ClaimTable) (why : Reason) (a : Attention) (i : RecIdx) (k : Slot) :
    (Attention.notice t why a i).get k =
      if t.ownerSlot i = some k then addReasons (t.handle i) why.mask (a.get k) else a.get k := by
  unfold Attention.notice ClaimTable.ownerSlot
  cases t.body? i with
  | none => simp
  | some b =>
    by_cases h : k = b.owner.slot
    · subst h; simp
    · simp [Table.get_modify, h, Ne.symm h]

/-- R69: a list that no notice is for stays as it was. -/
theorem Attention.notices_get_other (t : ClaimTable) (why : Reason) (is : List RecIdx) (a : Attention) (k : Slot)
    (h : ∀ i ∈ is, t.ownerSlot i ≠ some k) : (is.foldl (Attention.notice t why) a).get k = a.get k := by
  induction is generalizing a with
  | nil => rfl
  | cons i is ih =>
    rw [List.foldl_cons, ih _ fun j hj => h j (List.mem_cons_of_mem _ hj), Attention.notice_get,
      if_neg (h i List.mem_cons_self)]

/-- Reasons that join a set keep the reasons it has. -/
theorem ReasonSet.and_mask_or {x y m : ReasonSet} (h : x &&& m = m) : (x ||| y) &&& m = m := by
  apply BitVec.eq_of_getLsbD_eq
  intro i hi
  have hb := congrArg (fun b => b.getLsbD i) h
  simp only [BitVec.getLsbD_and, BitVec.getLsbD_or] at hb ⊢
  cases hm : m.getLsbD i <;> simp_all

/-- Reasons that join a set are in it. -/
theorem ReasonSet.or_and_mask (x m : ReasonSet) : (x ||| m) &&& m = m := by
  apply BitVec.eq_of_getLsbD_eq
  intro i hi
  simp only [BitVec.getLsbD_and, BitVec.getLsbD_or]
  cases m.getLsbD i <;> simp

/-- R67: a claim notice leaves a list as `posted` says. -/
theorem addReasons_eq_posted (t : ClaimTable) (i : RecIdx) (why : Reason) (l : List Entry) :
    addReasons (t.handle i) why.mask l = posted t l (i, why) := by
  induction l with
  | nil => rfl
  | cons e l ih =>
    have hp : ∀ b : Bool, e.isFor i = b → posted t (e :: l) (i, why) =
        if b = true then e.join why :: l else e :: posted t l (i, why) := by
      rintro b hb
      unfold posted
      cases b <;> simp only [List.findIdx?_cons, hb]
      · cases l.findIdx? (Entry.isFor i) <;> rfl
      · rfl
    cases e with
    | device k => rw [hp false rfl, addReasons, ih]; rfl
    | claim h rs =>
      by_cases hi : h.index = i
      · rw [hp true (by simp [Entry.isFor, hi])]
        simp [addReasons, ClaimTable.handle, hi, Entry.join]
      · rw [hp false (by simp [Entry.isFor, hi]), ← ih]
        simp [addReasons, ClaimTable.handle, hi]

/-- R67, R69: the notices of an event leave every list as `told` says. -/
theorem Attention.notices_get (t : ClaimTable) (why : Reason) (is : List RecIdx) (a : Attention) (k : Slot) :
    (is.foldl (Attention.notice t why) a).get k = told t (postsOf is why) k (a.get k) := by
  induction is generalizing a with
  | nil => rfl
  | cons i is ih =>
    rw [List.foldl_cons, ih, Attention.notice_get, addReasons_eq_posted]
    by_cases h : t.ownerSlot i = some k <;> simp [told, postsOf, h]

/-- Notices in two parts are taken one part after the other. -/
theorem told_append (t : ClaimTable) (ps qs : List Post) (k : Slot) (l : List Entry) :
    told t (ps ++ qs) k l = told t qs k (told t ps k l) := by
  simp [told, List.filter_append, List.foldl_append]

/-- Only owners and handles matter to what is told. -/
theorem told_congr {t u : ClaimTable} (ho : ∀ i, t.ownerSlot i = u.ownerSlot i) (hh : ∀ i, t.handle i = u.handle i)
    (ps : List Post) (k : Slot) (l : List Entry) : told t ps k l = told u ps k l := by
  have hp : posted t = posted u := by
    funext l q
    simp [posted, hh]
  simp [told, ho, hp]

/-- R70: a device notice joins the list of each OPEN session that holds none of its kind. -/
theorem State.deviceNotice_get (s : State) (k : DeviceKind) (slot : Slot) :
    (s.deviceNotice k).attention.get slot =
      if s.sessions.isOpen slot = true ∧ .device k ∉ s.attention.get slot then s.attention.get slot ++ [.device k]
      else s.attention.get slot := by
  by_cases h : s.sessions.isOpen slot = true <;> by_cases h' : Entry.device k ∈ s.attention.get slot <;>
    simp [State.deviceNotice, addDevice, h, h']

/-- R70: a notice for the MAINTENANCE session joins its list alone. -/
theorem State.maintenanceNotice_get (s : State) (k : DeviceKind) (slot : Slot) :
    (s.maintenanceNotice k).attention.get slot =
      if (∃ i ∈ s.sessions.info? slot, i.role = .maintenance) ∧ .device k ∉ s.attention.get slot
      then s.attention.get slot ++ [.device k] else s.attention.get slot := by
  have hr : ((s.sessions.info? slot).any fun i => i.role == .maintenance) = true ↔
      ∃ i ∈ s.sessions.info? slot, i.role = .maintenance := by
    cases s.sessions.info? slot <;> simp
  simp only [State.maintenanceNotice, Table.get_mapIdx, hr, addDevice]
  by_cases h : ∃ i ∈ s.sessions.info? slot, i.role = .maintenance <;>
    by_cases h' : Entry.device k ∈ s.attention.get slot <;> simp only [h, h', if_true, if_false, true_and, false_and,
      not_true_eq_false, not_false_eq_true]

/-! ## Claim records and holder stacks -/

/-- R7: a record stands below those of higher priority and above the others. -/
theorem insertHolder_spec (t : ClaimTable) (i : RecIdx) (pr : Nat) (l : List RecIdx) :
    insertHolder t i pr l = l.takeWhile (fun j => decide (pr < t.priority j))
      ++ i :: l.dropWhile (fun j => decide (pr < t.priority j)) := by
  induction l with
  | nil => rfl
  | cons j l ih => by_cases h : pr < t.priority j <;> simp [insertHolder, h, ih]

@[simp] theorem ClaimTable.setState_holders (t : ClaimTable) (i : RecIdx) (st : ClaimState) :
    (t.setState i st).holders = t.holders := rfl

@[simp] theorem ClaimTable.remove_recs (t : ClaimTable) (i : RecIdx) : (t.remove i).recs = t.recs := rfl

@[simp] theorem ClaimTable.remove_holders (t : ClaimTable) (i : RecIdx) (c : Chan) :
    (t.remove i).holders.get c = (t.holders.get c).erase i := by simp [ClaimTable.remove]

theorem ClaimTable.setState_recs (t : ClaimTable) (i j : RecIdx) (st : ClaimState) :
    (t.setState i st).recs.get j = if j = i then { t.recs.get i with state := st } else t.recs.get j := by
  simp [ClaimTable.setState, Table.get_modify]

/-- R2: freeing a record changes that record alone. -/
theorem ClaimTable.free_recs (t : ClaimTable) (i j : RecIdx) :
    (t.free i).recs.get j = if j = i then { t.recs.get i with state := .free } else t.recs.get j :=
  ClaimTable.setState_recs _ _ _ _

@[simp] theorem ClaimTable.free_holders (t : ClaimTable) (i : RecIdx) (c : Chan) :
    (t.free i).holders.get c = (t.holders.get c).erase i := by simp [ClaimTable.free]

/-- R23: retiring a record changes it alone, and only if it is LIVE. -/
theorem ClaimTable.retire_recs (why : RetireReason) (t : ClaimTable) (i j : RecIdx) :
    (t.retire why i).recs.get j =
      match t.live? i with
      | some b => if j = i then { t.recs.get i with state := .retired b why } else t.recs.get j
      | none => t.recs.get j := by
  unfold ClaimTable.retire
  cases t.live? i with
  | none => rfl
  | some b => exact ClaimTable.setState_recs _ _ _ _

theorem ClaimTable.retire_holders (why : RetireReason) (t : ClaimTable) (i : RecIdx) (c : Chan) :
    (t.retire why i).holders.get c =
      if (t.live? i).isSome = true then (t.holders.get c).erase i else t.holders.get c := by
  unfold ClaimTable.retire
  cases t.live? i <;> simp

/-- R13: a grant fills that record alone. -/
theorem ClaimTable.grant_recs (t : ClaimTable) (i j : RecIdx) (b : ClaimBody) :
    (t.grant i b).recs.get j = if j = i then ⟨(t.recs.get i).gen + 1, .live b⟩ else t.recs.get j := by
  simp [ClaimTable.grant, ClaimTable.insert, Table.get_modify]

/-- R2, R25: many records freed are FREE, and no other record changes. -/
theorem ClaimTable.freeAll_recs (is : List RecIdx) (t : ClaimTable) (j : RecIdx) :
    (is.foldl ClaimTable.free t).recs.get j =
      if j ∈ is then { t.recs.get j with state := .free } else t.recs.get j := by
  induction is generalizing t with
  | nil => rfl
  | cons i is ih =>
    rw [List.foldl_cons, ih, ClaimTable.free_recs]
    by_cases h : j = i <;> by_cases h' : j ∈ is <;> simp_all

/-- R6, R25: many records freed leave the stacks, where no stack holds a record twice. -/
theorem ClaimTable.freeAll_holders (is : List RecIdx) (t : ClaimTable) (c : Chan) (h : (t.holders.get c).Nodup) :
    (is.foldl ClaimTable.free t).holders.get c = (t.holders.get c).filter fun j => decide (j ∉ is) := by
  induction is generalizing t with
  | nil => simp
  | cons i is ih =>
    rw [List.foldl_cons, ih _ (by simpa using h.erase i), ClaimTable.free_holders, h.erase_eq_filter, List.filter_filter]
    congr 1
    funext j
    by_cases hj : j = i <;> simp [hj]

/-- A stack in strictly decreasing priority holds no record twice. -/
theorem ClaimTable.stackSound.nodup {t : ClaimTable} {c : Chan} (h : t.stackSound c) : (t.holders.get c).Nodup :=
  h.2.1.imp fun {a b} hab heq => by subst heq; exact absurd hab (lt_irrefl _)

/-! ## Reports in transit -/

theorem Transit.send_reports (tr : Transit) (c d : Chan) (r : Report) :
    (tr.send c r).reports.get d = if d = c then tr.reports.get c ++ [r] else tr.reports.get d := by
  simp [Transit.send, Table.get_modify]

/-- R9: each report of an event joins the end of its channel's. -/
theorem Transit.sendAll_reports (rs : List (Chan × Report)) (tr : Transit) (d : Chan) :
    (tr.sendAll rs).reports.get d = tr.reports.get d ++ (rs.filter fun x => x.1 == d).map Prod.snd := by
  induction rs generalizing tr with
  | nil => simp [Transit.sendAll]
  | cons x rs ih =>
    have := ih (tr.send x.1 x.2)
    simp only [Transit.sendAll, List.foldl_cons] at this ⊢
    rw [this, Transit.send_reports]
    by_cases h : x.1 = d
    · subst h; simp
    · simp [h, Ne.symm h]

theorem Transit.sendAll_rest (rs : List (Chan × Report)) (tr : Transit) :
    tr.sendAll rs = { tr with reports := (tr.sendAll rs).reports } := by
  induction rs generalizing tr with
  | nil => rfl
  | cons x rs ih =>
    have := ih (tr.send x.1 x.2)
    simp only [Transit.sendAll, List.foldl_cons] at this ⊢
    rw [this]
    rfl

/-- R9: for each listed channel whose top changed, the report of its top joins the end of its reports. -/
theorem State.handTops_reports (s : State) (before : ClaimTable) (cs : List Chan) (h : cs.Nodup) (c : Chan) :
    (s.handTops before cs).transit.reports.get c = s.transit.reports.get c ++
      if c ∈ cs ∧ s.claims.top c ≠ before.top c then [s.claims.topReport c] else [] := by
  simp only [State.handTops, Transit.sendAll_reports, List.append_cancel_left_eq]
  rw [List.filter_map, List.map_map]
  have hn : (s.claims.changedTops before cs).Nodup := h.filter _
  have hf : (s.claims.changedTops before cs).filter ((fun x => x.1 == c) ∘ fun d => (d, s.claims.topReport d)) =
      if c ∈ s.claims.changedTops before cs then [c] else [] := by
    have : ((fun x : Chan × Report => x.1 == c) ∘ fun d => (d, s.claims.topReport d)) = fun d => d == c := by
      funext d; rfl
    rw [this, List.filter_beq, hn.count]
    split <;> rfl
  rw [hf]
  simp only [ClaimTable.changedTops, List.mem_filter, bne_iff_ne]
  split <;> simp

/-! ## Channel records -/

@[simp] theorem State.changeChannels_get (s : State) (f : Chan → Channel → Channel) (c : Chan) :
    (s.changeChannels f).outputs.chans.get c = f c (s.outputs.chans.get c) := by simp [State.changeChannels]

theorem State.changeChannel_get (s : State) (f : Channel → Channel) (c d : Chan) :
    (s.changeChannel c f).outputs.chans.get d =
      if d = c then f (s.outputs.chans.get d) else s.outputs.chans.get d := by simp [State.changeChannel]

theorem Monitor.noteOutputs_spec (m : Monitor) (before after : Table 48 Channel) :
    (m.noteOutputs before after).scanPos = m.scanPos ∧ (m.noteOutputs before after).chans = m.chans
      ∧ (∀ cv, m.state = .converting cv → (m.noteOutputs before after).state = .converting ⟨cv.chan, cv.outputAtStart,
          cv.disturbed || decide ((after.get cv.chan).output ≠ (before.get cv.chan).output)⟩)
      ∧ ((∀ cv, m.state ≠ .converting cv) → (m.noteOutputs before after).state = m.state) := by
  unfold Monitor.noteOutputs
  cases hm : m.state with
  | stopped => simp [hm]
  | waiting => simp [hm]
  | converting cv =>
    dsimp only
    split
    · next h => simp [h, hm]
    · next h => simp [h, hm, Monitor.disturb]

/-- R91, R107: an event that changes outputs disturbs the conversion in flight exactly if its channel's output changed. -/
theorem State.changeChannels_disturbs (s : State) (f : Chan → Channel → Channel) :
    disturbedByChange s (s.changeChannels f) := Monitor.noteOutputs_spec _ _ _

theorem State.changeChannel_disturbs (s : State) (c : Chan) (f : Channel → Channel) :
    disturbedByChange s (s.changeChannel c f) := Monitor.noteOutputs_spec _ _ _

@[simp] theorem Channel.moveTo_target (ch : Channel) (v : Nat) : (ch.moveTo v).target = v := by
  unfold Channel.moveTo; split
  · rfl
  · split <;> rfl

/-- R87, R88: a recomputed target moves the output by the ramp rule. -/
theorem Channel.retarget_movedTo (ch : Channel) (quiesced : Bool) :
    movedTo ch (ch.retarget quiesced) (ch.wanted quiesced) := by
  unfold movedTo Channel.retarget
  by_cases h : ch.wanted quiesced = ch.target
  · simp [h]
  · simp only [h, if_false]
    unfold Channel.moveTo
    refine ⟨?_, fun e => e.elim, ?_, ?_⟩
    · split
      · rfl
      · split <;> rfl
    · intro _ hr; simp [hr]
    · intro _ hr
      by_cases ho : ch.wanted quiesced = ch.output <;> simp [hr, ho]

/-- R87, R88: only the target, the output and the ramp state can change. -/
theorem Channel.retarget_rest (ch : Channel) (quiesced : Bool) :
    ch.retarget quiesced = { ch with
      target := (ch.retarget quiesced).target, output := (ch.retarget quiesced).output
      rampState := (ch.retarget quiesced).rampState } := by
  unfold Channel.retarget Channel.moveTo
  split
  · rfl
  · split
    · rfl
    · split <;> rfl

/-! ## The readback monitor's search -/

/-- R104: the scan finds the first eligible channel from the scan position, or there is none. -/
theorem State.scan_find (s : State) (pos : Chan) :
    (∃ k : Chan, s.eligible (pos + k) = true ∧ (∀ j, j < k → s.eligible (pos + j) = false)
      ∧ (scanOrder pos).find? s.eligible = some (pos + k))
    ∨ ((∀ c, s.eligible c = false) ∧ (scanOrder pos).find? s.eligible = none) := by
  cases hk : (List.finRange 48).find? (s.eligible ∘ fun x => pos + x) with
  | none =>
    right
    refine ⟨fun c => ?_, by rw [scanOrder, List.find?_map, hk]; rfl⟩
    rw [List.find?_eq_none] at hk
    simpa using hk (c - pos) (List.mem_finRange _)
  | some k =>
    left
    refine ⟨k, by simpa using List.find?_some hk, ?_, by rw [scanOrder, List.find?_map, hk]; rfl⟩
    intro j hj
    rw [List.find?_eq_some_iff_getElem] at hk
    obtain ⟨_, i, hi, hik, hb⟩ := hk
    obtain rfl : i = k.val := by simpa using congrArg Fin.val hik
    simpa using hb j.val hj

/-- R104: what a search leaves. -/
theorem State.search_found (s : State) : foundBySearch s s.monitor.scanPos s.search.monitor := by
  unfold State.search
  rcases s.scan_find s.monitor.scanPos with ⟨k, h1, h2, h3⟩ | ⟨h1, h2⟩
  · left; refine ⟨k, h1, h2, ?_⟩; simp [h3]
  · right; refine ⟨h1, ?_⟩; simp [h2]

@[simp] theorem State.search_chans (s : State) : s.search.monitor.chans = s.monitor.chans := by
  unfold State.search; split <;> rfl

/-- A search reads only which channels are eligible and where their outputs stand. -/
theorem foundBySearch_congr {s t : State} {pos : Chan} {m : Monitor} (hs : foundBySearch s pos m)
    (h : ∀ c, s.eligible c = t.eligible c)
    (ho : ∀ c, (s.outputs.chans.get c).output = (t.outputs.chans.get c).output) : foundBySearch t pos m := by
  unfold foundBySearch at *
  simpa only [h, ho] using hs

end Sys2Proof.Machine
end

