-- ==== Sys2Proof/Laws/Requests.lean ====
section
/-! SUPPORT. The fields each owner of a request leaves as they were, and the fields that a request handed to an owner
through the decoder leaves as they were. -/

namespace Sys2Proof.Machine

variable (s : State)

/-! ## The owners -/

@[simp] theorem ownClose_pending (who : Requester) (q : Unit) : (ownClose s who q).1.pending = s.pending := by simp [ownClose]
@[simp] theorem ownClose_resetHeld (who : Requester) (q : Unit) : (ownClose s who q).1.resetHeld = s.resetHeld := by simp [ownClose]
@[simp] theorem ownClose_quiescenLow (who : Requester) (q : Unit) : (ownClose s who q).1.quiescenLow = s.quiescenLow := by simp [ownClose]
@[simp] theorem ownClose_ports (who : Requester) (q : Unit) : (ownClose s who q).1.ports = s.ports := by simp [ownClose]
@[simp] theorem ownClose_outputs (who : Requester) (q : Unit) : (ownClose s who q).1.outputs = s.outputs := by simp [ownClose]
@[simp] theorem ownClose_monitor (who : Requester) (q : Unit) : (ownClose s who q).1.monitor = s.monitor := by simp [ownClose]
@[simp] theorem ownClose_supervisor (who : Requester) (q : Unit) : (ownClose s who q).1.supervisor = s.supervisor := by simp [ownClose]

@[simp] theorem ownKeepalive_pending (who : Requester) (q : Unit) : (ownKeepalive s who q).1.pending = s.pending := rfl
@[simp] theorem ownKeepalive_resetHeld (who : Requester) (q : Unit) : (ownKeepalive s who q).1.resetHeld = s.resetHeld := rfl
@[simp] theorem ownKeepalive_quiescenLow (who : Requester) (q : Unit) : (ownKeepalive s who q).1.quiescenLow = s.quiescenLow := rfl
@[simp] theorem ownKeepalive_ports (who : Requester) (q : Unit) : (ownKeepalive s who q).1.ports = s.ports := rfl
@[simp] theorem ownKeepalive_sessions (who : Requester) (q : Unit) : (ownKeepalive s who q).1.sessions = s.sessions := rfl
@[simp] theorem ownKeepalive_claims (who : Requester) (q : Unit) : (ownKeepalive s who q).1.claims = s.claims := rfl
@[simp] theorem ownKeepalive_attention (who : Requester) (q : Unit) : (ownKeepalive s who q).1.attention = s.attention := rfl
@[simp] theorem ownKeepalive_outputs (who : Requester) (q : Unit) : (ownKeepalive s who q).1.outputs = s.outputs := rfl
@[simp] theorem ownKeepalive_monitor (who : Requester) (q : Unit) : (ownKeepalive s who q).1.monitor = s.monitor := rfl
@[simp] theorem ownKeepalive_supervisor (who : Requester) (q : Unit) : (ownKeepalive s who q).1.supervisor = s.supervisor := rfl
@[simp] theorem ownKeepalive_store (who : Requester) (q : Unit) : (ownKeepalive s who q).1.store = s.store := rfl
@[simp] theorem ownKeepalive_transit (who : Requester) (q : Unit) : (ownKeepalive s who q).1.transit = s.transit := rfl

@[simp] theorem ownClaim_pending (who : Requester) (q : ClaimParams) : (ownClaim s who q).1.pending = s.pending := by
  dsimp only [ownClaim]; repeat' split
  all_goals simp
@[simp] theorem ownClaim_resetHeld (who : Requester) (q : ClaimParams) : (ownClaim s who q).1.resetHeld = s.resetHeld := by
  dsimp only [ownClaim]; repeat' split
  all_goals simp
@[simp] theorem ownClaim_quiescenLow (who : Requester) (q : ClaimParams) : (ownClaim s who q).1.quiescenLow = s.quiescenLow := by
  dsimp only [ownClaim]; repeat' split
  all_goals simp
@[simp] theorem ownClaim_ports (who : Requester) (q : ClaimParams) : (ownClaim s who q).1.ports = s.ports := by
  dsimp only [ownClaim]; repeat' split
  all_goals simp
@[simp] theorem ownClaim_sessions (who : Requester) (q : ClaimParams) : (ownClaim s who q).1.sessions = s.sessions := by
  dsimp only [ownClaim]; repeat' split
  all_goals simp
@[simp] theorem ownClaim_outputs (who : Requester) (q : ClaimParams) : (ownClaim s who q).1.outputs = s.outputs := by
  dsimp only [ownClaim]; repeat' split
  all_goals simp
@[simp] theorem ownClaim_monitor (who : Requester) (q : ClaimParams) : (ownClaim s who q).1.monitor = s.monitor := by
  dsimp only [ownClaim]; repeat' split
  all_goals simp
@[simp] theorem ownClaim_supervisor (who : Requester) (q : ClaimParams) : (ownClaim s who q).1.supervisor = s.supervisor := by
  dsimp only [ownClaim]; repeat' split
  all_goals simp
@[simp] theorem ownClaim_store (who : Requester) (q : ClaimParams) : (ownClaim s who q).1.store = s.store := by
  dsimp only [ownClaim]; repeat' split
  all_goals simp

@[simp] theorem ownSet_pending (who : Requester) (q : SetParams) : (ownSet s who q).1.pending = s.pending := by
  dsimp only [ownSet]; repeat' split
  all_goals simp
@[simp] theorem ownSet_resetHeld (who : Requester) (q : SetParams) : (ownSet s who q).1.resetHeld = s.resetHeld := by
  dsimp only [ownSet]; repeat' split
  all_goals simp
@[simp] theorem ownSet_quiescenLow (who : Requester) (q : SetParams) : (ownSet s who q).1.quiescenLow = s.quiescenLow := by
  dsimp only [ownSet]; repeat' split
  all_goals simp
@[simp] theorem ownSet_ports (who : Requester) (q : SetParams) : (ownSet s who q).1.ports = s.ports := by
  dsimp only [ownSet]; repeat' split
  all_goals simp
@[simp] theorem ownSet_sessions (who : Requester) (q : SetParams) : (ownSet s who q).1.sessions = s.sessions := by
  dsimp only [ownSet]; repeat' split
  all_goals simp
@[simp] theorem ownSet_attention (who : Requester) (q : SetParams) : (ownSet s who q).1.attention = s.attention := by
  dsimp only [ownSet]; repeat' split
  all_goals simp
@[simp] theorem ownSet_outputs (who : Requester) (q : SetParams) : (ownSet s who q).1.outputs = s.outputs := by
  dsimp only [ownSet]; repeat' split
  all_goals simp
@[simp] theorem ownSet_monitor (who : Requester) (q : SetParams) : (ownSet s who q).1.monitor = s.monitor := by
  dsimp only [ownSet]; repeat' split
  all_goals simp
@[simp] theorem ownSet_supervisor (who : Requester) (q : SetParams) : (ownSet s who q).1.supervisor = s.supervisor := by
  dsimp only [ownSet]; repeat' split
  all_goals simp
@[simp] theorem ownSet_store (who : Requester) (q : SetParams) : (ownSet s who q).1.store = s.store := by
  dsimp only [ownSet]; repeat' split
  all_goals simp

@[simp] theorem ownSetIf_pending (who : Requester) (q : SetIfParams) : (ownSetIf s who q).1.pending = s.pending := by
  dsimp only [ownSetIf]; repeat' split
  all_goals simp
@[simp] theorem ownSetIf_resetHeld (who : Requester) (q : SetIfParams) : (ownSetIf s who q).1.resetHeld = s.resetHeld := by
  dsimp only [ownSetIf]; repeat' split
  all_goals simp
@[simp] theorem ownSetIf_quiescenLow (who : Requester) (q : SetIfParams) : (ownSetIf s who q).1.quiescenLow = s.quiescenLow := by
  dsimp only [ownSetIf]; repeat' split
  all_goals simp
@[simp] theorem ownSetIf_ports (who : Requester) (q : SetIfParams) : (ownSetIf s who q).1.ports = s.ports := by
  dsimp only [ownSetIf]; repeat' split
  all_goals simp
@[simp] theorem ownSetIf_sessions (who : Requester) (q : SetIfParams) : (ownSetIf s who q).1.sessions = s.sessions := by
  dsimp only [ownSetIf]; repeat' split
  all_goals simp
@[simp] theorem ownSetIf_attention (who : Requester) (q : SetIfParams) : (ownSetIf s who q).1.attention = s.attention := by
  dsimp only [ownSetIf]; repeat' split
  all_goals simp
@[simp] theorem ownSetIf_outputs (who : Requester) (q : SetIfParams) : (ownSetIf s who q).1.outputs = s.outputs := by
  dsimp only [ownSetIf]; repeat' split
  all_goals simp
@[simp] theorem ownSetIf_monitor (who : Requester) (q : SetIfParams) : (ownSetIf s who q).1.monitor = s.monitor := by
  dsimp only [ownSetIf]; repeat' split
  all_goals simp
@[simp] theorem ownSetIf_supervisor (who : Requester) (q : SetIfParams) : (ownSetIf s who q).1.supervisor = s.supervisor := by
  dsimp only [ownSetIf]; repeat' split
  all_goals simp
@[simp] theorem ownSetIf_store (who : Requester) (q : SetIfParams) : (ownSetIf s who q).1.store = s.store := by
  dsimp only [ownSetIf]; repeat' split
  all_goals simp

@[simp] theorem ownRenew_pending (who : Requester) (q : RenewParams) : (ownRenew s who q).1.pending = s.pending := by
  dsimp only [ownRenew]; repeat' split
  all_goals simp
@[simp] theorem ownRenew_resetHeld (who : Requester) (q : RenewParams) : (ownRenew s who q).1.resetHeld = s.resetHeld := by
  dsimp only [ownRenew]; repeat' split
  all_goals simp
@[simp] theorem ownRenew_quiescenLow (who : Requester) (q : RenewParams) : (ownRenew s who q).1.quiescenLow = s.quiescenLow := by
  dsimp only [ownRenew]; repeat' split
  all_goals simp
@[simp] theorem ownRenew_ports (who : Requester) (q : RenewParams) : (ownRenew s who q).1.ports = s.ports := by
  dsimp only [ownRenew]; repeat' split
  all_goals simp
@[simp] theorem ownRenew_sessions (who : Requester) (q : RenewParams) : (ownRenew s who q).1.sessions = s.sessions := by
  dsimp only [ownRenew]; repeat' split
  all_goals simp
@[simp] theorem ownRenew_attention (who : Requester) (q : RenewParams) : (ownRenew s who q).1.attention = s.attention := by
  dsimp only [ownRenew]; repeat' split
  all_goals simp
@[simp] theorem ownRenew_outputs (who : Requester) (q : RenewParams) : (ownRenew s who q).1.outputs = s.outputs := by
  dsimp only [ownRenew]; repeat' split
  all_goals simp
@[simp] theorem ownRenew_monitor (who : Requester) (q : RenewParams) : (ownRenew s who q).1.monitor = s.monitor := by
  dsimp only [ownRenew]; repeat' split
  all_goals simp
@[simp] theorem ownRenew_supervisor (who : Requester) (q : RenewParams) : (ownRenew s who q).1.supervisor = s.supervisor := by
  dsimp only [ownRenew]; repeat' split
  all_goals simp
@[simp] theorem ownRenew_store (who : Requester) (q : RenewParams) : (ownRenew s who q).1.store = s.store := by
  dsimp only [ownRenew]; repeat' split
  all_goals simp
@[simp] theorem ownRenew_transit (who : Requester) (q : RenewParams) : (ownRenew s who q).1.transit = s.transit := by
  dsimp only [ownRenew]; repeat' split
  all_goals simp

@[simp] theorem ownRelease_pending (who : Requester) (q : WireHandle) : (ownRelease s who q).1.pending = s.pending := by
  dsimp only [ownRelease]; repeat' split
  all_goals simp
@[simp] theorem ownRelease_resetHeld (who : Requester) (q : WireHandle) : (ownRelease s who q).1.resetHeld = s.resetHeld := by
  dsimp only [ownRelease]; repeat' split
  all_goals simp
@[simp] theorem ownRelease_quiescenLow (who : Requester) (q : WireHandle) : (ownRelease s who q).1.quiescenLow = s.quiescenLow := by
  dsimp only [ownRelease]; repeat' split
  all_goals simp
@[simp] theorem ownRelease_ports (who : Requester) (q : WireHandle) : (ownRelease s who q).1.ports = s.ports := by
  dsimp only [ownRelease]; repeat' split
  all_goals simp
@[simp] theorem ownRelease_sessions (who : Requester) (q : WireHandle) : (ownRelease s who q).1.sessions = s.sessions := by
  dsimp only [ownRelease]; repeat' split
  all_goals simp
@[simp] theorem ownRelease_outputs (who : Requester) (q : WireHandle) : (ownRelease s who q).1.outputs = s.outputs := by
  dsimp only [ownRelease]; repeat' split
  all_goals simp
@[simp] theorem ownRelease_monitor (who : Requester) (q : WireHandle) : (ownRelease s who q).1.monitor = s.monitor := by
  dsimp only [ownRelease]; repeat' split
  all_goals simp
@[simp] theorem ownRelease_supervisor (who : Requester) (q : WireHandle) : (ownRelease s who q).1.supervisor = s.supervisor := by
  dsimp only [ownRelease]; repeat' split
  all_goals simp
@[simp] theorem ownRelease_store (who : Requester) (q : WireHandle) : (ownRelease s who q).1.store = s.store := by
  dsimp only [ownRelease]; repeat' split
  all_goals simp

@[simp] theorem ownTransfer_pending (who : Requester) (q : TransferParams) : (ownTransfer s who q).1.pending = s.pending := by
  dsimp only [ownTransfer]; repeat' split
  all_goals simp
@[simp] theorem ownTransfer_resetHeld (who : Requester) (q : TransferParams) : (ownTransfer s who q).1.resetHeld = s.resetHeld := by
  dsimp only [ownTransfer]; repeat' split
  all_goals simp
@[simp] theorem ownTransfer_quiescenLow (who : Requester) (q : TransferParams) : (ownTransfer s who q).1.quiescenLow = s.quiescenLow := by
  dsimp only [ownTransfer]; repeat' split
  all_goals simp
@[simp] theorem ownTransfer_ports (who : Requester) (q : TransferParams) : (ownTransfer s who q).1.ports = s.ports := by
  dsimp only [ownTransfer]; repeat' split
  all_goals simp
@[simp] theorem ownTransfer_sessions (who : Requester) (q : TransferParams) : (ownTransfer s who q).1.sessions = s.sessions := by
  dsimp only [ownTransfer]; repeat' split
  all_goals simp
@[simp] theorem ownTransfer_outputs (who : Requester) (q : TransferParams) : (ownTransfer s who q).1.outputs = s.outputs := by
  dsimp only [ownTransfer]; repeat' split
  all_goals simp
@[simp] theorem ownTransfer_monitor (who : Requester) (q : TransferParams) : (ownTransfer s who q).1.monitor = s.monitor := by
  dsimp only [ownTransfer]; repeat' split
  all_goals simp
@[simp] theorem ownTransfer_supervisor (who : Requester) (q : TransferParams) : (ownTransfer s who q).1.supervisor = s.supervisor := by
  dsimp only [ownTransfer]; repeat' split
  all_goals simp
@[simp] theorem ownTransfer_store (who : Requester) (q : TransferParams) : (ownTransfer s who q).1.store = s.store := by
  dsimp only [ownTransfer]; repeat' split
  all_goals simp
@[simp] theorem ownTransfer_transit (who : Requester) (q : TransferParams) : (ownTransfer s who q).1.transit = s.transit := by
  dsimp only [ownTransfer]; repeat' split
  all_goals simp

@[simp] theorem ownRevoke_pending (who : Requester) (q : WireHandle) : (ownRevoke s who q).1.pending = s.pending := by
  dsimp only [ownRevoke]; repeat' split
  all_goals simp
@[simp] theorem ownRevoke_resetHeld (who : Requester) (q : WireHandle) : (ownRevoke s who q).1.resetHeld = s.resetHeld := by
  dsimp only [ownRevoke]; repeat' split
  all_goals simp
@[simp] theorem ownRevoke_quiescenLow (who : Requester) (q : WireHandle) : (ownRevoke s who q).1.quiescenLow = s.quiescenLow := by
  dsimp only [ownRevoke]; repeat' split
  all_goals simp
@[simp] theorem ownRevoke_ports (who : Requester) (q : WireHandle) : (ownRevoke s who q).1.ports = s.ports := by
  dsimp only [ownRevoke]; repeat' split
  all_goals simp
@[simp] theorem ownRevoke_sessions (who : Requester) (q : WireHandle) : (ownRevoke s who q).1.sessions = s.sessions := by
  dsimp only [ownRevoke]; repeat' split
  all_goals simp
@[simp] theorem ownRevoke_outputs (who : Requester) (q : WireHandle) : (ownRevoke s who q).1.outputs = s.outputs := by
  dsimp only [ownRevoke]; repeat' split
  all_goals simp
@[simp] theorem ownRevoke_monitor (who : Requester) (q : WireHandle) : (ownRevoke s who q).1.monitor = s.monitor := by
  dsimp only [ownRevoke]; repeat' split
  all_goals simp
@[simp] theorem ownRevoke_supervisor (who : Requester) (q : WireHandle) : (ownRevoke s who q).1.supervisor = s.supervisor := by
  dsimp only [ownRevoke]; repeat' split
  all_goals simp
@[simp] theorem ownRevoke_store (who : Requester) (q : WireHandle) : (ownRevoke s who q).1.store = s.store := by
  dsimp only [ownRevoke]; repeat' split
  all_goals simp

@[simp] theorem ownFetch_pending (who : Requester) (q : Unit) : (ownFetch s who q).1.pending = s.pending := by
  dsimp only [ownFetch]; repeat' split
  all_goals simp
@[simp] theorem ownFetch_resetHeld (who : Requester) (q : Unit) : (ownFetch s who q).1.resetHeld = s.resetHeld := by
  dsimp only [ownFetch]; repeat' split
  all_goals simp
@[simp] theorem ownFetch_quiescenLow (who : Requester) (q : Unit) : (ownFetch s who q).1.quiescenLow = s.quiescenLow := by
  dsimp only [ownFetch]; repeat' split
  all_goals simp
@[simp] theorem ownFetch_ports (who : Requester) (q : Unit) : (ownFetch s who q).1.ports = s.ports := by
  dsimp only [ownFetch]; repeat' split
  all_goals simp
@[simp] theorem ownFetch_sessions (who : Requester) (q : Unit) : (ownFetch s who q).1.sessions = s.sessions := by
  dsimp only [ownFetch]; repeat' split
  all_goals simp
@[simp] theorem ownFetch_outputs (who : Requester) (q : Unit) : (ownFetch s who q).1.outputs = s.outputs := by
  dsimp only [ownFetch]; repeat' split
  all_goals simp
@[simp] theorem ownFetch_monitor (who : Requester) (q : Unit) : (ownFetch s who q).1.monitor = s.monitor := by
  dsimp only [ownFetch]; repeat' split
  all_goals simp
@[simp] theorem ownFetch_supervisor (who : Requester) (q : Unit) : (ownFetch s who q).1.supervisor = s.supervisor := by
  dsimp only [ownFetch]; repeat' split
  all_goals simp
@[simp] theorem ownFetch_store (who : Requester) (q : Unit) : (ownFetch s who q).1.store = s.store := by
  dsimp only [ownFetch]; repeat' split
  all_goals simp
@[simp] theorem ownFetch_transit (who : Requester) (q : Unit) : (ownFetch s who q).1.transit = s.transit := by
  dsimp only [ownFetch]; repeat' split
  all_goals simp

@[simp] theorem ownQueryClaim_pending (who : Requester) (q : WireHandle) : (ownQueryClaim s who q).1.pending = s.pending := by
  dsimp only [ownQueryClaim]; repeat' split
  all_goals simp
@[simp] theorem ownQueryClaim_resetHeld (who : Requester) (q : WireHandle) : (ownQueryClaim s who q).1.resetHeld = s.resetHeld := by
  dsimp only [ownQueryClaim]; repeat' split
  all_goals simp
@[simp] theorem ownQueryClaim_quiescenLow (who : Requester) (q : WireHandle) : (ownQueryClaim s who q).1.quiescenLow = s.quiescenLow := by
  dsimp only [ownQueryClaim]; repeat' split
  all_goals simp
@[simp] theorem ownQueryClaim_ports (who : Requester) (q : WireHandle) : (ownQueryClaim s who q).1.ports = s.ports := by
  dsimp only [ownQueryClaim]; repeat' split
  all_goals simp
@[simp] theorem ownQueryClaim_sessions (who : Requester) (q : WireHandle) : (ownQueryClaim s who q).1.sessions = s.sessions := by
  dsimp only [ownQueryClaim]; repeat' split
  all_goals simp
@[simp] theorem ownQueryClaim_claims (who : Requester) (q : WireHandle) : (ownQueryClaim s who q).1.claims = s.claims := by
  dsimp only [ownQueryClaim]; repeat' split
  all_goals simp
@[simp] theorem ownQueryClaim_attention (who : Requester) (q : WireHandle) : (ownQueryClaim s who q).1.attention = s.attention := by
  dsimp only [ownQueryClaim]; repeat' split
  all_goals simp
@[simp] theorem ownQueryClaim_outputs (who : Requester) (q : WireHandle) : (ownQueryClaim s who q).1.outputs = s.outputs := by
  dsimp only [ownQueryClaim]; repeat' split
  all_goals simp
@[simp] theorem ownQueryClaim_monitor (who : Requester) (q : WireHandle) : (ownQueryClaim s who q).1.monitor = s.monitor := by
  dsimp only [ownQueryClaim]; repeat' split
  all_goals simp
@[simp] theorem ownQueryClaim_supervisor (who : Requester) (q : WireHandle) : (ownQueryClaim s who q).1.supervisor = s.supervisor := by
  dsimp only [ownQueryClaim]; repeat' split
  all_goals simp
@[simp] theorem ownQueryClaim_store (who : Requester) (q : WireHandle) : (ownQueryClaim s who q).1.store = s.store := by
  dsimp only [ownQueryClaim]; repeat' split
  all_goals simp
@[simp] theorem ownQueryClaim_transit (who : Requester) (q : WireHandle) : (ownQueryClaim s who q).1.transit = s.transit := by
  dsimp only [ownQueryClaim]; repeat' split
  all_goals simp

@[simp] theorem ownQueryChannel_pending (who : Requester) (q : Chan) : (ownQueryChannel s who q).1.pending = s.pending := rfl
@[simp] theorem ownQueryChannel_resetHeld (who : Requester) (q : Chan) : (ownQueryChannel s who q).1.resetHeld = s.resetHeld := rfl
@[simp] theorem ownQueryChannel_quiescenLow (who : Requester) (q : Chan) : (ownQueryChannel s who q).1.quiescenLow = s.quiescenLow := rfl
@[simp] theorem ownQueryChannel_ports (who : Requester) (q : Chan) : (ownQueryChannel s who q).1.ports = s.ports := rfl
@[simp] theorem ownQueryChannel_sessions (who : Requester) (q : Chan) : (ownQueryChannel s who q).1.sessions = s.sessions := rfl
@[simp] theorem ownQueryChannel_claims (who : Requester) (q : Chan) : (ownQueryChannel s who q).1.claims = s.claims := rfl
@[simp] theorem ownQueryChannel_attention (who : Requester) (q : Chan) : (ownQueryChannel s who q).1.attention = s.attention := rfl
@[simp] theorem ownQueryChannel_outputs (who : Requester) (q : Chan) : (ownQueryChannel s who q).1.outputs = s.outputs := rfl
@[simp] theorem ownQueryChannel_monitor (who : Requester) (q : Chan) : (ownQueryChannel s who q).1.monitor = s.monitor := rfl
@[simp] theorem ownQueryChannel_supervisor (who : Requester) (q : Chan) : (ownQueryChannel s who q).1.supervisor = s.supervisor := rfl
@[simp] theorem ownQueryChannel_store (who : Requester) (q : Chan) : (ownQueryChannel s who q).1.store = s.store := rfl
@[simp] theorem ownQueryChannel_transit (who : Requester) (q : Chan) : (ownQueryChannel s who q).1.transit = s.transit := rfl

@[simp] theorem ownClearFault_pending (who : Requester) (q : Chan) : (ownClearFault s who q).1.pending = s.pending := by
  dsimp only [ownClearFault]; repeat' split
  all_goals simp
@[simp] theorem ownClearFault_resetHeld (who : Requester) (q : Chan) : (ownClearFault s who q).1.resetHeld = s.resetHeld := by
  dsimp only [ownClearFault]; repeat' split
  all_goals simp
@[simp] theorem ownClearFault_quiescenLow (who : Requester) (q : Chan) : (ownClearFault s who q).1.quiescenLow = s.quiescenLow := by
  dsimp only [ownClearFault]; repeat' split
  all_goals simp
@[simp] theorem ownClearFault_ports (who : Requester) (q : Chan) : (ownClearFault s who q).1.ports = s.ports := by
  dsimp only [ownClearFault]; repeat' split
  all_goals simp
@[simp] theorem ownClearFault_sessions (who : Requester) (q : Chan) : (ownClearFault s who q).1.sessions = s.sessions := by
  dsimp only [ownClearFault]; repeat' split
  all_goals simp
@[simp] theorem ownClearFault_claims (who : Requester) (q : Chan) : (ownClearFault s who q).1.claims = s.claims := by
  dsimp only [ownClearFault]; repeat' split
  all_goals simp
@[simp] theorem ownClearFault_supervisor (who : Requester) (q : Chan) : (ownClearFault s who q).1.supervisor = s.supervisor := by
  dsimp only [ownClearFault]; repeat' split
  all_goals simp
@[simp] theorem ownClearFault_store (who : Requester) (q : Chan) : (ownClearFault s who q).1.store = s.store := by
  dsimp only [ownClearFault]; repeat' split
  all_goals simp

@[simp] theorem ownResume_pending (who : Requester) (q : Unit) : (ownResume s who q).1.pending = s.pending := by
  dsimp only [ownResume]; repeat' split
  all_goals simp
@[simp] theorem ownResume_resetHeld (who : Requester) (q : Unit) : (ownResume s who q).1.resetHeld = s.resetHeld := by
  dsimp only [ownResume]; repeat' split
  all_goals simp
@[simp] theorem ownResume_quiescenLow (who : Requester) (q : Unit) : (ownResume s who q).1.quiescenLow = s.quiescenLow := by
  dsimp only [ownResume]; repeat' split
  all_goals simp
@[simp] theorem ownResume_ports (who : Requester) (q : Unit) : (ownResume s who q).1.ports = s.ports := by
  dsimp only [ownResume]; repeat' split
  all_goals simp
@[simp] theorem ownResume_sessions (who : Requester) (q : Unit) : (ownResume s who q).1.sessions = s.sessions := by
  dsimp only [ownResume]; repeat' split
  all_goals simp
@[simp] theorem ownResume_claims (who : Requester) (q : Unit) : (ownResume s who q).1.claims = s.claims := by
  dsimp only [ownResume]; repeat' split
  all_goals simp
@[simp] theorem ownResume_outputs (who : Requester) (q : Unit) : (ownResume s who q).1.outputs = s.outputs := by
  dsimp only [ownResume]; repeat' split
  all_goals simp
@[simp] theorem ownResume_monitor (who : Requester) (q : Unit) : (ownResume s who q).1.monitor = s.monitor := by
  dsimp only [ownResume]; repeat' split
  all_goals simp
@[simp] theorem ownResume_store (who : Requester) (q : Unit) : (ownResume s who q).1.store = s.store := by
  dsimp only [ownResume]; repeat' split
  all_goals simp
@[simp] theorem ownResume_transit (who : Requester) (q : Unit) : (ownResume s who q).1.transit = s.transit := by
  dsimp only [ownResume]; repeat' split
  all_goals simp

@[simp] theorem ownProfileRead_pending (who : Requester) (q : ProfileReadParams) : (ownProfileRead s who q).1.pending = s.pending := by
  dsimp only [ownProfileRead]; repeat' split
  all_goals simp
@[simp] theorem ownProfileRead_resetHeld (who : Requester) (q : ProfileReadParams) : (ownProfileRead s who q).1.resetHeld = s.resetHeld := by
  dsimp only [ownProfileRead]; repeat' split
  all_goals simp
@[simp] theorem ownProfileRead_quiescenLow (who : Requester) (q : ProfileReadParams) : (ownProfileRead s who q).1.quiescenLow = s.quiescenLow := by
  dsimp only [ownProfileRead]; repeat' split
  all_goals simp
@[simp] theorem ownProfileRead_ports (who : Requester) (q : ProfileReadParams) : (ownProfileRead s who q).1.ports = s.ports := by
  dsimp only [ownProfileRead]; repeat' split
  all_goals simp
@[simp] theorem ownProfileRead_sessions (who : Requester) (q : ProfileReadParams) : (ownProfileRead s who q).1.sessions = s.sessions := by
  dsimp only [ownProfileRead]; repeat' split
  all_goals simp
@[simp] theorem ownProfileRead_claims (who : Requester) (q : ProfileReadParams) : (ownProfileRead s who q).1.claims = s.claims := by
  dsimp only [ownProfileRead]; repeat' split
  all_goals simp
@[simp] theorem ownProfileRead_attention (who : Requester) (q : ProfileReadParams) : (ownProfileRead s who q).1.attention = s.attention := by
  dsimp only [ownProfileRead]; repeat' split
  all_goals simp
@[simp] theorem ownProfileRead_outputs (who : Requester) (q : ProfileReadParams) : (ownProfileRead s who q).1.outputs = s.outputs := by
  dsimp only [ownProfileRead]; repeat' split
  all_goals simp
@[simp] theorem ownProfileRead_monitor (who : Requester) (q : ProfileReadParams) : (ownProfileRead s who q).1.monitor = s.monitor := by
  dsimp only [ownProfileRead]; repeat' split
  all_goals simp
@[simp] theorem ownProfileRead_supervisor (who : Requester) (q : ProfileReadParams) : (ownProfileRead s who q).1.supervisor = s.supervisor := by
  dsimp only [ownProfileRead]; repeat' split
  all_goals simp
@[simp] theorem ownProfileRead_store (who : Requester) (q : ProfileReadParams) : (ownProfileRead s who q).1.store = s.store := by
  dsimp only [ownProfileRead]; repeat' split
  all_goals simp
@[simp] theorem ownProfileRead_transit (who : Requester) (q : ProfileReadParams) : (ownProfileRead s who q).1.transit = s.transit := by
  dsimp only [ownProfileRead]; repeat' split
  all_goals simp

@[simp] theorem ownProfileStage_pending (who : Requester) (q : ProfileStageParams) : (ownProfileStage s who q).1.pending = s.pending := by
  dsimp only [ownProfileStage]; repeat' split
  all_goals simp
@[simp] theorem ownProfileStage_resetHeld (who : Requester) (q : ProfileStageParams) : (ownProfileStage s who q).1.resetHeld = s.resetHeld := by
  dsimp only [ownProfileStage]; repeat' split
  all_goals simp
@[simp] theorem ownProfileStage_quiescenLow (who : Requester) (q : ProfileStageParams) : (ownProfileStage s who q).1.quiescenLow = s.quiescenLow := by
  dsimp only [ownProfileStage]; repeat' split
  all_goals simp
@[simp] theorem ownProfileStage_ports (who : Requester) (q : ProfileStageParams) : (ownProfileStage s who q).1.ports = s.ports := by
  dsimp only [ownProfileStage]; repeat' split
  all_goals simp
@[simp] theorem ownProfileStage_sessions (who : Requester) (q : ProfileStageParams) : (ownProfileStage s who q).1.sessions = s.sessions := by
  dsimp only [ownProfileStage]; repeat' split
  all_goals simp
@[simp] theorem ownProfileStage_claims (who : Requester) (q : ProfileStageParams) : (ownProfileStage s who q).1.claims = s.claims := by
  dsimp only [ownProfileStage]; repeat' split
  all_goals simp
@[simp] theorem ownProfileStage_attention (who : Requester) (q : ProfileStageParams) : (ownProfileStage s who q).1.attention = s.attention := by
  dsimp only [ownProfileStage]; repeat' split
  all_goals simp
@[simp] theorem ownProfileStage_outputs (who : Requester) (q : ProfileStageParams) : (ownProfileStage s who q).1.outputs = s.outputs := by
  dsimp only [ownProfileStage]; repeat' split
  all_goals simp
@[simp] theorem ownProfileStage_monitor (who : Requester) (q : ProfileStageParams) : (ownProfileStage s who q).1.monitor = s.monitor := by
  dsimp only [ownProfileStage]; repeat' split
  all_goals simp
@[simp] theorem ownProfileStage_supervisor (who : Requester) (q : ProfileStageParams) : (ownProfileStage s who q).1.supervisor = s.supervisor := by
  dsimp only [ownProfileStage]; repeat' split
  all_goals simp
@[simp] theorem ownProfileStage_transit (who : Requester) (q : ProfileStageParams) : (ownProfileStage s who q).1.transit = s.transit := by
  dsimp only [ownProfileStage]; repeat' split
  all_goals simp

@[simp] theorem ownProfileCommit_pending (who : Requester) (q : Unit) : (ownProfileCommit s who q).1.pending = s.pending := by
  dsimp only [ownProfileCommit]; repeat' split
  all_goals simp
@[simp] theorem ownProfileCommit_resetHeld (who : Requester) (q : Unit) : (ownProfileCommit s who q).1.resetHeld = s.resetHeld := by
  dsimp only [ownProfileCommit]; repeat' split
  all_goals simp
@[simp] theorem ownProfileCommit_quiescenLow (who : Requester) (q : Unit) : (ownProfileCommit s who q).1.quiescenLow = s.quiescenLow := by
  dsimp only [ownProfileCommit]; repeat' split
  all_goals simp
@[simp] theorem ownProfileCommit_ports (who : Requester) (q : Unit) : (ownProfileCommit s who q).1.ports = s.ports := by
  dsimp only [ownProfileCommit]; repeat' split
  all_goals simp
@[simp] theorem ownProfileCommit_sessions (who : Requester) (q : Unit) : (ownProfileCommit s who q).1.sessions = s.sessions := by
  dsimp only [ownProfileCommit]; repeat' split
  all_goals simp
@[simp] theorem ownProfileCommit_claims (who : Requester) (q : Unit) : (ownProfileCommit s who q).1.claims = s.claims := by
  dsimp only [ownProfileCommit]; repeat' split
  all_goals simp
@[simp] theorem ownProfileCommit_attention (who : Requester) (q : Unit) : (ownProfileCommit s who q).1.attention = s.attention := by
  dsimp only [ownProfileCommit]; repeat' split
  all_goals simp
@[simp] theorem ownProfileCommit_outputs (who : Requester) (q : Unit) : (ownProfileCommit s who q).1.outputs = s.outputs := by
  dsimp only [ownProfileCommit]; repeat' split
  all_goals simp
@[simp] theorem ownProfileCommit_monitor (who : Requester) (q : Unit) : (ownProfileCommit s who q).1.monitor = s.monitor := by
  dsimp only [ownProfileCommit]; repeat' split
  all_goals simp
@[simp] theorem ownProfileCommit_supervisor (who : Requester) (q : Unit) : (ownProfileCommit s who q).1.supervisor = s.supervisor := by
  dsimp only [ownProfileCommit]; repeat' split
  all_goals simp
@[simp] theorem ownProfileCommit_transit (who : Requester) (q : Unit) : (ownProfileCommit s who q).1.transit = s.transit := by
  dsimp only [ownProfileCommit]; repeat' split
  all_goals simp

@[simp] theorem ownProfileDiscard_pending (who : Requester) (q : Unit) : (ownProfileDiscard s who q).1.pending = s.pending := by
  dsimp only [ownProfileDiscard]; repeat' split
  all_goals simp
@[simp] theorem ownProfileDiscard_resetHeld (who : Requester) (q : Unit) : (ownProfileDiscard s who q).1.resetHeld = s.resetHeld := by
  dsimp only [ownProfileDiscard]; repeat' split
  all_goals simp
@[simp] theorem ownProfileDiscard_quiescenLow (who : Requester) (q : Unit) : (ownProfileDiscard s who q).1.quiescenLow = s.quiescenLow := by
  dsimp only [ownProfileDiscard]; repeat' split
  all_goals simp
@[simp] theorem ownProfileDiscard_ports (who : Requester) (q : Unit) : (ownProfileDiscard s who q).1.ports = s.ports := by
  dsimp only [ownProfileDiscard]; repeat' split
  all_goals simp
@[simp] theorem ownProfileDiscard_sessions (who : Requester) (q : Unit) : (ownProfileDiscard s who q).1.sessions = s.sessions := by
  dsimp only [ownProfileDiscard]; repeat' split
  all_goals simp
@[simp] theorem ownProfileDiscard_claims (who : Requester) (q : Unit) : (ownProfileDiscard s who q).1.claims = s.claims := by
  dsimp only [ownProfileDiscard]; repeat' split
  all_goals simp
@[simp] theorem ownProfileDiscard_attention (who : Requester) (q : Unit) : (ownProfileDiscard s who q).1.attention = s.attention := by
  dsimp only [ownProfileDiscard]; repeat' split
  all_goals simp
@[simp] theorem ownProfileDiscard_outputs (who : Requester) (q : Unit) : (ownProfileDiscard s who q).1.outputs = s.outputs := by
  dsimp only [ownProfileDiscard]; repeat' split
  all_goals simp
@[simp] theorem ownProfileDiscard_monitor (who : Requester) (q : Unit) : (ownProfileDiscard s who q).1.monitor = s.monitor := by
  dsimp only [ownProfileDiscard]; repeat' split
  all_goals simp
@[simp] theorem ownProfileDiscard_supervisor (who : Requester) (q : Unit) : (ownProfileDiscard s who q).1.supervisor = s.supervisor := by
  dsimp only [ownProfileDiscard]; repeat' split
  all_goals simp
@[simp] theorem ownProfileDiscard_transit (who : Requester) (q : Unit) : (ownProfileDiscard s who q).1.transit = s.transit := by
  dsimp only [ownProfileDiscard]; repeat' split
  all_goals simp

@[simp] theorem ownOpen_pending (p : PortId) (q : OpenParams) : (ownOpen p s q).1.pending = s.pending := by
  dsimp only [ownOpen]; repeat' split
  all_goals simp
@[simp] theorem ownOpen_resetHeld (p : PortId) (q : OpenParams) : (ownOpen p s q).1.resetHeld = s.resetHeld := by
  dsimp only [ownOpen]; repeat' split
  all_goals simp
@[simp] theorem ownOpen_quiescenLow (p : PortId) (q : OpenParams) : (ownOpen p s q).1.quiescenLow = s.quiescenLow := by
  dsimp only [ownOpen]; repeat' split
  all_goals simp
@[simp] theorem ownOpen_ports (p : PortId) (q : OpenParams) : (ownOpen p s q).1.ports = s.ports := by
  dsimp only [ownOpen]; repeat' split
  all_goals simp
@[simp] theorem ownOpen_claims (p : PortId) (q : OpenParams) : (ownOpen p s q).1.claims = s.claims := by
  dsimp only [ownOpen]; repeat' split
  all_goals simp
@[simp] theorem ownOpen_outputs (p : PortId) (q : OpenParams) : (ownOpen p s q).1.outputs = s.outputs := by
  dsimp only [ownOpen]; repeat' split
  all_goals simp
@[simp] theorem ownOpen_monitor (p : PortId) (q : OpenParams) : (ownOpen p s q).1.monitor = s.monitor := by
  dsimp only [ownOpen]; repeat' split
  all_goals simp
@[simp] theorem ownOpen_supervisor (p : PortId) (q : OpenParams) : (ownOpen p s q).1.supervisor = s.supervisor := by
  dsimp only [ownOpen]; repeat' split
  all_goals simp
@[simp] theorem ownOpen_store (p : PortId) (q : OpenParams) : (ownOpen p s q).1.store = s.store := by
  dsimp only [ownOpen]; repeat' split
  all_goals simp
@[simp] theorem ownOpen_transit (p : PortId) (q : OpenParams) : (ownOpen p s q).1.transit = s.transit := by
  dsimp only [ownOpen]; repeat' split
  all_goals simp

/-! ## The decoder -/

/-- R163: the common checks change the session table alone. -/
theorem State.commonChecks_spec {α : Type} (p : PortId) (code : RequestCode) (decode : List Byte → Except Result α)
    (maintenanceOnly : Bool) :
    s.commonChecks p code decode maintenanceOnly = .absent
      ∨ (∃ t why, s.commonChecks p code decode maintenanceOnly = .refused { s with sessions := t } why)
      ∨ ∃ t who q, s.commonChecks p code decode maintenanceOnly = .passed { s with sessions := t } who q := by
  unfold State.commonChecks
  split
  · exact .inl rfl
  · split
    · exact .inr (.inl ⟨s.sessions, _, rfl⟩)
    · split
      · exact .inr (.inl ⟨_, _, rfl⟩)
      · split
        · exact .inr (.inl ⟨_, _, rfl⟩)
        · exact .inr (.inr ⟨_, _, _, rfl⟩)

/-- R163: a request changes nothing, or is refused with only the session table changed, or is answered as its owner
replies. -/
theorem State.serve_spec {α : Type} (p : PortId) (code : RequestCode) (decode : List Byte → Except Result α)
    (maintenanceOnly : Bool) (owner : State → Requester → α → State × Reply) :
    s.serve p code decode maintenanceOnly owner = s
      ∨ (∃ t why, s.serve p code decode maintenanceOnly owner
          = { s with sessions := t }.answer p code.byte (refuse why))
      ∨ ∃ t who q, s.serve p code decode maintenanceOnly owner
          = (owner { s with sessions := t } who q).1.answer p code.byte (owner { s with sessions := t } who q).2 := by
  unfold State.serve
  rcases s.commonChecks_spec p code decode maintenanceOnly with h | ⟨t, why, h⟩ | ⟨t, who, q, h⟩
  · rw [h]; exact .inl rfl
  · rw [h]; exact .inr (.inl ⟨t, why, rfl⟩)
  · rw [h]; exact .inr (.inr ⟨t, who, q, rfl⟩)

/-- A field that the owner leaves as it was is left so by the whole request. -/
theorem State.serve_pending {α : Type} (p : PortId) (code : RequestCode) (decode : List Byte → Except Result α)
    (maintenanceOnly : Bool) (owner : State → Requester → α → State × Reply)
    (kept : ∀ u who q, (owner u who q).1.pending = u.pending) :
    (s.serve p code decode maintenanceOnly owner).pending = s.pending := by
  rcases s.serve_spec p code decode maintenanceOnly owner with h | ⟨t, why, h⟩ | ⟨t, who, q, h⟩ <;> simp [h, kept]

/-- A field that the owner leaves as it was is left so by the whole request. -/
theorem State.serve_resetHeld {α : Type} (p : PortId) (code : RequestCode) (decode : List Byte → Except Result α)
    (maintenanceOnly : Bool) (owner : State → Requester → α → State × Reply)
    (kept : ∀ u who q, (owner u who q).1.resetHeld = u.resetHeld) :
    (s.serve p code decode maintenanceOnly owner).resetHeld = s.resetHeld := by
  rcases s.serve_spec p code decode maintenanceOnly owner with h | ⟨t, why, h⟩ | ⟨t, who, q, h⟩ <;> simp [h, kept]

/-- A field that the owner leaves as it was is left so by the whole request. -/
theorem State.serve_quiescenLow {α : Type} (p : PortId) (code : RequestCode) (decode : List Byte → Except Result α)
    (maintenanceOnly : Bool) (owner : State → Requester → α → State × Reply)
    (kept : ∀ u who q, (owner u who q).1.quiescenLow = u.quiescenLow) :
    (s.serve p code decode maintenanceOnly owner).quiescenLow = s.quiescenLow := by
  rcases s.serve_spec p code decode maintenanceOnly owner with h | ⟨t, why, h⟩ | ⟨t, who, q, h⟩ <;> simp [h, kept]

/-- A field that the owner leaves as it was is left so by the whole request. -/
theorem State.serve_claims {α : Type} (p : PortId) (code : RequestCode) (decode : List Byte → Except Result α)
    (maintenanceOnly : Bool) (owner : State → Requester → α → State × Reply)
    (kept : ∀ u who q, (owner u who q).1.claims = u.claims) :
    (s.serve p code decode maintenanceOnly owner).claims = s.claims := by
  rcases s.serve_spec p code decode maintenanceOnly owner with h | ⟨t, why, h⟩ | ⟨t, who, q, h⟩ <;> simp [h, kept]

/-- A field that the owner leaves as it was is left so by the whole request. -/
theorem State.serve_attention {α : Type} (p : PortId) (code : RequestCode) (decode : List Byte → Except Result α)
    (maintenanceOnly : Bool) (owner : State → Requester → α → State × Reply)
    (kept : ∀ u who q, (owner u who q).1.attention = u.attention) :
    (s.serve p code decode maintenanceOnly owner).attention = s.attention := by
  rcases s.serve_spec p code decode maintenanceOnly owner with h | ⟨t, why, h⟩ | ⟨t, who, q, h⟩ <;> simp [h, kept]

/-- A field that the owner leaves as it was is left so by the whole request. -/
theorem State.serve_outputs {α : Type} (p : PortId) (code : RequestCode) (decode : List Byte → Except Result α)
    (maintenanceOnly : Bool) (owner : State → Requester → α → State × Reply)
    (kept : ∀ u who q, (owner u who q).1.outputs = u.outputs) :
    (s.serve p code decode maintenanceOnly owner).outputs = s.outputs := by
  rcases s.serve_spec p code decode maintenanceOnly owner with h | ⟨t, why, h⟩ | ⟨t, who, q, h⟩ <;> simp [h, kept]

/-- A field that the owner leaves as it was is left so by the whole request. -/
theorem State.serve_monitor {α : Type} (p : PortId) (code : RequestCode) (decode : List Byte → Except Result α)
    (maintenanceOnly : Bool) (owner : State → Requester → α → State × Reply)
    (kept : ∀ u who q, (owner u who q).1.monitor = u.monitor) :
    (s.serve p code decode maintenanceOnly owner).monitor = s.monitor := by
  rcases s.serve_spec p code decode maintenanceOnly owner with h | ⟨t, why, h⟩ | ⟨t, who, q, h⟩ <;> simp [h, kept]

/-- A field that the owner leaves as it was is left so by the whole request. -/
theorem State.serve_supervisor {α : Type} (p : PortId) (code : RequestCode) (decode : List Byte → Except Result α)
    (maintenanceOnly : Bool) (owner : State → Requester → α → State × Reply)
    (kept : ∀ u who q, (owner u who q).1.supervisor = u.supervisor) :
    (s.serve p code decode maintenanceOnly owner).supervisor = s.supervisor := by
  rcases s.serve_spec p code decode maintenanceOnly owner with h | ⟨t, why, h⟩ | ⟨t, who, q, h⟩ <;> simp [h, kept]

/-- A field that the owner leaves as it was is left so by the whole request. -/
theorem State.serve_store {α : Type} (p : PortId) (code : RequestCode) (decode : List Byte → Except Result α)
    (maintenanceOnly : Bool) (owner : State → Requester → α → State × Reply)
    (kept : ∀ u who q, (owner u who q).1.store = u.store) :
    (s.serve p code decode maintenanceOnly owner).store = s.store := by
  rcases s.serve_spec p code decode maintenanceOnly owner with h | ⟨t, why, h⟩ | ⟨t, who, q, h⟩ <;> simp [h, kept]

/-- A field that the owner leaves as it was is left so by the whole request. -/
theorem State.serve_transit {α : Type} (p : PortId) (code : RequestCode) (decode : List Byte → Except Result α)
    (maintenanceOnly : Bool) (owner : State → Requester → α → State × Reply)
    (kept : ∀ u who q, (owner u who q).1.transit = u.transit) :
    (s.serve p code decode maintenanceOnly owner).transit = s.transit := by
  rcases s.serve_spec p code decode maintenanceOnly owner with h | ⟨t, why, h⟩ | ⟨t, who, q, h⟩ <;> simp [h, kept]

/-! ## QUERY_DEVICE -/

/-- A port changed and then answered is changed once. -/
theorem State.modifyPort_answer (p : PortId) (f : Port → Port) (code : Byte) (reply : Reply) :
    (s.modifyPort p f).answer p code reply
      = s.modifyPort p fun q => { f q with produced := some (reply.bytes code) } := by
  cases p <;> rfl

/-- R173: the reads change the port's record of them and its response alone. -/
theorem State.readDevice_spec (p : PortId) (g : DeviceReading) (reads : List DeviceBlock) :
    ∃ f, s.readDevice p g reads = s.modifyPort p f
      ∧ ∀ q, (f q) = { q with produced := (f q).produced, reading := (f q).reading } := by
  unfold State.readDevice
  split
  · exact ⟨_, s.modifyPort_answer p _ _ _, fun _ => rfl⟩
  · exact ⟨_, rfl, fun _ => rfl⟩

@[simp] theorem State.readDevice_pending (p : PortId) (g : DeviceReading) (reads : List DeviceBlock) :
    (s.readDevice p g reads).pending = s.pending := by
  obtain ⟨f, h, -⟩ := s.readDevice_spec p g reads
  simp [h]
@[simp] theorem State.readDevice_resetHeld (p : PortId) (g : DeviceReading) (reads : List DeviceBlock) :
    (s.readDevice p g reads).resetHeld = s.resetHeld := by
  obtain ⟨f, h, -⟩ := s.readDevice_spec p g reads
  simp [h]
@[simp] theorem State.readDevice_quiescenLow (p : PortId) (g : DeviceReading) (reads : List DeviceBlock) :
    (s.readDevice p g reads).quiescenLow = s.quiescenLow := by
  obtain ⟨f, h, -⟩ := s.readDevice_spec p g reads
  simp [h]
@[simp] theorem State.readDevice_sessions (p : PortId) (g : DeviceReading) (reads : List DeviceBlock) :
    (s.readDevice p g reads).sessions = s.sessions := by
  obtain ⟨f, h, -⟩ := s.readDevice_spec p g reads
  simp [h]
@[simp] theorem State.readDevice_claims (p : PortId) (g : DeviceReading) (reads : List DeviceBlock) :
    (s.readDevice p g reads).claims = s.claims := by
  obtain ⟨f, h, -⟩ := s.readDevice_spec p g reads
  simp [h]
@[simp] theorem State.readDevice_attention (p : PortId) (g : DeviceReading) (reads : List DeviceBlock) :
    (s.readDevice p g reads).attention = s.attention := by
  obtain ⟨f, h, -⟩ := s.readDevice_spec p g reads
  simp [h]
@[simp] theorem State.readDevice_outputs (p : PortId) (g : DeviceReading) (reads : List DeviceBlock) :
    (s.readDevice p g reads).outputs = s.outputs := by
  obtain ⟨f, h, -⟩ := s.readDevice_spec p g reads
  simp [h]
@[simp] theorem State.readDevice_monitor (p : PortId) (g : DeviceReading) (reads : List DeviceBlock) :
    (s.readDevice p g reads).monitor = s.monitor := by
  obtain ⟨f, h, -⟩ := s.readDevice_spec p g reads
  simp [h]
@[simp] theorem State.readDevice_supervisor (p : PortId) (g : DeviceReading) (reads : List DeviceBlock) :
    (s.readDevice p g reads).supervisor = s.supervisor := by
  obtain ⟨f, h, -⟩ := s.readDevice_spec p g reads
  simp [h]
@[simp] theorem State.readDevice_store (p : PortId) (g : DeviceReading) (reads : List DeviceBlock) :
    (s.readDevice p g reads).store = s.store := by
  obtain ⟨f, h, -⟩ := s.readDevice_spec p g reads
  simp [h]
@[simp] theorem State.readDevice_transit (p : PortId) (g : DeviceReading) (reads : List DeviceBlock) :
    (s.readDevice p g reads).transit = s.transit := by
  obtain ⟨f, h, -⟩ := s.readDevice_spec p g reads
  simp [h]

@[simp] theorem State.serveOpen_pending (p : PortId) : (s.serveOpen p (ownOpen p)).pending = s.pending := by
  dsimp only [State.serveOpen]; repeat' split
  all_goals simp
@[simp] theorem State.serveOpen_resetHeld (p : PortId) : (s.serveOpen p (ownOpen p)).resetHeld = s.resetHeld := by
  dsimp only [State.serveOpen]; repeat' split
  all_goals simp
@[simp] theorem State.serveOpen_quiescenLow (p : PortId) : (s.serveOpen p (ownOpen p)).quiescenLow = s.quiescenLow := by
  dsimp only [State.serveOpen]; repeat' split
  all_goals simp
@[simp] theorem State.serveOpen_claims (p : PortId) : (s.serveOpen p (ownOpen p)).claims = s.claims := by
  dsimp only [State.serveOpen]; repeat' split
  all_goals simp
@[simp] theorem State.serveOpen_outputs (p : PortId) : (s.serveOpen p (ownOpen p)).outputs = s.outputs := by
  dsimp only [State.serveOpen]; repeat' split
  all_goals simp
@[simp] theorem State.serveOpen_monitor (p : PortId) : (s.serveOpen p (ownOpen p)).monitor = s.monitor := by
  dsimp only [State.serveOpen]; repeat' split
  all_goals simp
@[simp] theorem State.serveOpen_supervisor (p : PortId) : (s.serveOpen p (ownOpen p)).supervisor = s.supervisor := by
  dsimp only [State.serveOpen]; repeat' split
  all_goals simp
@[simp] theorem State.serveOpen_store (p : PortId) : (s.serveOpen p (ownOpen p)).store = s.store := by
  dsimp only [State.serveOpen]; repeat' split
  all_goals simp
@[simp] theorem State.serveOpen_transit (p : PortId) : (s.serveOpen p (ownOpen p)).transit = s.transit := by
  dsimp only [State.serveOpen]; repeat' split
  all_goals simp

/-! ## Ticks taken by the blocks -/

@[simp] theorem State.takeTick_pending (b : TickTaker) : (s.takeTick b).pending = s.pending := by
  unfold State.takeTick; split
  · rfl
  · cases b <;> simp [State.blockTick]
@[simp] theorem State.takeTicks_pending (bs : List TickTaker) : (bs.foldl State.takeTick s).pending = s.pending := by
  induction bs generalizing s with
  | nil => rfl
  | cons b bs ih => simp [ih]
@[simp] theorem State.takeTick_resetHeld (b : TickTaker) : (s.takeTick b).resetHeld = s.resetHeld := by
  unfold State.takeTick; split
  · rfl
  · cases b <;> simp [State.blockTick]
@[simp] theorem State.takeTicks_resetHeld (bs : List TickTaker) : (bs.foldl State.takeTick s).resetHeld = s.resetHeld := by
  induction bs generalizing s with
  | nil => rfl
  | cons b bs ih => simp [ih]
@[simp] theorem State.takeTick_quiescenLow (b : TickTaker) : (s.takeTick b).quiescenLow = s.quiescenLow := by
  unfold State.takeTick; split
  · rfl
  · cases b <;> simp [State.blockTick]
@[simp] theorem State.takeTicks_quiescenLow (bs : List TickTaker) : (bs.foldl State.takeTick s).quiescenLow = s.quiescenLow := by
  induction bs generalizing s with
  | nil => rfl
  | cons b bs ih => simp [ih]
@[simp] theorem State.takeTick_ports (b : TickTaker) : (s.takeTick b).ports = s.ports := by
  unfold State.takeTick; split
  · rfl
  · cases b <;> simp [State.blockTick]
@[simp] theorem State.takeTicks_ports (bs : List TickTaker) : (bs.foldl State.takeTick s).ports = s.ports := by
  induction bs generalizing s with
  | nil => rfl
  | cons b bs ih => simp [ih]

end Sys2Proof.Machine
end

