-- ==== Sys2Proof/Laws/Decoder.lean ====
section
/-! SUPPORT. What the decoder does with a request (R163), and what the session-handle check and the claim-handle checks
answer (R58, R3), said once. -/

namespace Sys2Proof.Machine

/-! ## The session-handle check -/

theorem State.requestOf_eq_some {s : State} {p : PortId} {code : Byte} {r : List Byte} :
    s.requestOf p code = some r ↔ s.requestAt p = some r ∧ r.head? = some code := by
  simp [State.requestOf, Option.filter_eq_some_iff]

theorem SessionTable.named_eq_some {t : SessionTable} {h : WireHandle} {slot : Slot} :
    t.named h = some slot ↔ h.low.toNat = slot.val ∧ (t.recs.get slot).gen = h.gen := by
  unfold SessionTable.named
  constructor
  · intro hs
    split at hs
    · split at hs
      · next h1 h2 =>
        obtain rfl := Option.some.inj hs
        exact ⟨rfl, h2⟩
      · simp at hs
    · simp at hs
  · rintro ⟨h1, h2⟩
    have hlt : h.low.toNat < 8 := by have := slot.isLt; omega
    have he : (⟨h.low.toNat, hlt⟩ : Slot) = slot := Fin.ext h1
    rw [dif_pos hlt, he, if_pos h2]

theorem SessionTable.reload_recs (t : SessionTable) (slot k : Slot) (info : SessionInfo)
    (h : t.info? slot = some info) :
    (t.reload slot).recs.get k = if k = slot then
      { t.recs.get slot with state := .opened { info with remaining := info.interval } } else t.recs.get k := by
  have hs : (t.recs.get slot).state = .opened info := by
    unfold SessionTable.info? SessionState.info? at h
    cases hr : (t.recs.get slot).state <;> rw [hr] at h <;> simp_all
  simp [SessionTable.reload, Table.get_modify, hs]

/-- R59: a reload is what `reloaded` says. -/
theorem SessionTable.reload_reloaded {s t : State} {slot : Slot} {info : SessionInfo}
    (h : s.sessions.info? slot = some info) (ht : t.sessions = s.sessions.reload slot) : reloaded s t slot info := by
  refine ⟨?_, ?_, by rw [ht]; rfl⟩
  · rw [ht, SessionTable.reload_recs _ _ _ _ h, if_pos rfl]
  · intro k hk
    rw [ht, SessionTable.reload_recs _ _ _ _ h, if_neg hk]

/-- R58 step 2: a lapsed slot that is named becomes CLOSED, and no other changes. -/
theorem SessionTable.closeLapsed_recs (t : SessionTable) (slot k : Slot) :
    (t.closeLapsed slot).recs.get k = if k = slot then { t.recs.get slot with state := .closed } else t.recs.get k := by
  simp [SessionTable.closeLapsed, Table.get_modify]

/-- R58, R59: the check passes for the session that asks, its keepalive reloaded. -/
theorem SessionTable.check_passed {t : SessionTable} {p : PortId} {h : WireHandle} {slot : Slot} {info : SessionInfo}
    (hn : t.named h = some slot) (hi : t.info? slot = some info) (hp : info.port = p) :
    t.check p h = .passed slot { info with remaining := info.interval } (t.reload slot) := by
  have hs : (t.recs.get slot).state = .opened info := by
    unfold SessionTable.info? SessionState.info? at hi
    cases hr : (t.recs.get slot).state <;> rw [hr] at hi <;> simp_all
  simp [SessionTable.check, hn, hs, hp]

/-! ## The decoder -/

variable {α : Type} {s : State} {p : PortId} {k : RequestCode} {r : List Byte} {decode : List Byte → Except Result α}
  {maintenanceOnly : Bool} {owner : State → Requester → α → State × Reply}

/-- R163 steps 2 and 3: a request refused for its form reaches no session. -/
theorem State.commonChecks_formRefused {why : Result} (hr : s.requestOf p k.byte = some r) (hd : decode r = .error why) :
    s.commonChecks p k decode maintenanceOnly = .refused s why := by
  simp [State.commonChecks, hr, hd]

/-- R163 step 4: a request whose session handle is refused. -/
theorem State.commonChecks_sessionRefused {q : α} {why : Result} {t : SessionTable} (hr : s.requestOf p k.byte = some r)
    (hd : decode r = .ok q) (hc : s.sessions.check p (handleAt r 1) = .refused why t) :
    s.commonChecks p k decode maintenanceOnly = .refused { s with sessions := t } why := by
  simp [State.commonChecks, hr, hd, hc]

/-- R163 step 5: a CONTROL session's reserved request. -/
theorem State.commonChecks_notPermitted {q : α} {slot : Slot} {info : SessionInfo} (ha : s.asks p k r slot info)
    (hd : decode r = .ok q) (hc : info.role = .control) :
    s.commonChecks p k decode true = .refused { s with sessions := s.sessions.reload slot } .notPermitted := by
  obtain ⟨h1, h2, h3, h4⟩ := ha
  simp [State.commonChecks, h1, hd, SessionTable.check_passed h2 h3 h4, hc]

/-- R163 step 6: a request that passes every check is for its owner. -/
theorem State.commonChecks_passed {q : α} {slot : Slot} {info : SessionInfo} (ha : s.asks p k r slot info)
    (hd : decode r = .ok q) (hm : maintenanceOnly = true → info.role = .maintenance) :
    s.commonChecks p k decode maintenanceOnly = .passed { s with sessions := s.sessions.reload slot }
      ⟨slot, { info with remaining := info.interval }⟩ q := by
  obtain ⟨h1, h2, h3, h4⟩ := ha
  have hn : ¬ (maintenanceOnly = true ∧ info.role = .control) := by
    rintro ⟨hm', hc⟩
    rw [hm hm'] at hc
    exact absurd hc (by decide)
  simp [State.commonChecks, h1, hd, SessionTable.check_passed h2 h3 h4, hn]

/-- With no such request in flight there is none to check. -/
theorem State.commonChecks_absent (hr : s.requestOf p k.byte = none) :
    s.commonChecks p k decode maintenanceOnly = .absent := by
  simp [State.commonChecks, hr]

/-- A request refused for its form is answered so, and nothing else changes. -/
theorem State.serve_formRefused {why : Result} (hr : s.requestOf p k.byte = some r) (hd : decode r = .error why) :
    s.serve p k decode maintenanceOnly owner = s.answer p k.byte (refuse why) := by
  rw [State.serve, State.commonChecks_formRefused hr hd]

/-- A request whose session handle is refused reaches no owner. -/
theorem State.serve_sessionRefused {q : α} {why : Result} {t : SessionTable} (hr : s.requestOf p k.byte = some r)
    (hd : decode r = .ok q) (hc : s.sessions.check p (handleAt r 1) = .refused why t) :
    s.serve p k decode maintenanceOnly owner = { s with sessions := t }.answer p k.byte (refuse why) := by
  rw [State.serve, State.commonChecks_sessionRefused hr hd hc]

/-- A CONTROL session's reserved request reaches no owner. -/
theorem State.serve_notPermitted {q : α} {slot : Slot} {info : SessionInfo} (ha : s.asks p k r slot info)
    (hd : decode r = .ok q) (hc : info.role = .control) :
    s.serve p k decode true owner
      = { s with sessions := s.sessions.reload slot }.answer p k.byte (refuse .notPermitted) := by
  rw [State.serve, State.commonChecks_notPermitted ha hd hc]

/-- A request that passes every check is handed to its owner, and the owner's reply is its response. -/
theorem State.serve_owner {q : α} {slot : Slot} {info : SessionInfo} (ha : s.asks p k r slot info)
    (hd : decode r = .ok q) (hm : maintenanceOnly = true → info.role = .maintenance) :
    s.serve p k decode maintenanceOnly owner =
      (owner { s with sessions := s.sessions.reload slot } ⟨slot, { info with remaining := info.interval }⟩ q).1.answer p
        k.byte
        (owner { s with sessions := s.sessions.reload slot } ⟨slot, { info with remaining := info.interval }⟩ q).2 := by
  rw [State.serve, State.commonChecks_passed ha hd hm]

/-- With no such request in flight, a request's command changes nothing. -/
theorem State.serve_none (hr : s.requestOf p k.byte = none) : s.serve p k decode maintenanceOnly owner = s := by
  rw [State.serve, State.commonChecks_absent hr]

/-! ## QUERY_DEVICE (R173) -/

/-- A request not yet begun has no response and no reads. -/
theorem State.requestAt_eq_some {s : State} {p : PortId} {r : List Byte} :
    s.requestAt p = some r ↔ (∃ f, (s.ports.get p).inFlight = some f ∧ f.bytes = r)
      ∧ (s.ports.get p).produced = none ∧ (s.ports.get p).reading = none := by
  unfold State.requestAt
  split <;> simp_all

theorem DeviceReading.reads_supervisor (s : State) (g : DeviceReading) (reads : List DeviceBlock) :
    (reads.foldl (DeviceReading.read s) g).supervisor
      = (g.supervisor <|> if .supervisor ∈ reads then some (s.supervisor.state, s.supervisor.refPresent) else none) := by
  induction reads generalizing g with
  | nil => cases h : g.supervisor <;> simp [h]
  | cons b reads ih =>
    rw [List.foldl_cons, ih]
    cases b <;> cases h : g.supervisor <;> simp [DeviceReading.read, h]

theorem DeviceReading.reads_quiesced (s : State) (g : DeviceReading) (reads : List DeviceBlock) :
    (reads.foldl (DeviceReading.read s) g).quiesced
      = (g.quiesced <|> if .outputStage ∈ reads then some s.outputs.quiesced else none) := by
  induction reads generalizing g with
  | nil => cases h : g.quiesced <;> simp [h]
  | cons b reads ih =>
    rw [List.foldl_cons, ih]
    cases b <;> cases h : g.quiesced <;> simp [DeviceReading.read, h]

theorem DeviceReading.reads_freeRecords (s : State) (g : DeviceReading) (reads : List DeviceBlock) :
    (reads.foldl (DeviceReading.read s) g).freeRecords
      = (g.freeRecords <|> if .claimTable ∈ reads then some s.claims.freeCount else none) := by
  induction reads generalizing g with
  | nil => cases h : g.freeRecords <;> simp [h]
  | cons b reads ih =>
    rw [List.foldl_cons, ih]
    cases b <;> cases h : g.freeRecords <;> simp [DeviceReading.read, h]

theorem DeviceReading.reads_openSessions (s : State) (g : DeviceReading) (reads : List DeviceBlock) :
    (reads.foldl (DeviceReading.read s) g).openSessions
      = (g.openSessions <|> if .sessionTable ∈ reads then some s.sessions.openSlots.length else none) := by
  induction reads generalizing g with
  | nil => cases h : g.openSessions <;> simp [h]
  | cons b reads ih =>
    rw [List.foldl_cons, ih]
    cases b <;> cases h : g.openSessions <;> simp [DeviceReading.read, h]

theorem DeviceReading.reads_store (s : State) (g : DeviceReading) (reads : List DeviceBlock) :
    (reads.foldl (DeviceReading.read s) g).store
      = (g.store <|> if .profileStore ∈ reads then some s.store.items else none) := by
  induction reads generalizing g with
  | nil => cases h : g.store <;> simp [h]
  | cons b reads ih =>
    rw [List.foldl_cons, ih]
    cases b <;> cases h : g.store <;> simp [DeviceReading.read, h]

/-- R173: reading some blocks one after the other gives each block not read before its items as they stand. -/
theorem DeviceReading.reads_spec (s : State) (g : DeviceReading) (reads : List DeviceBlock) :
    readsItems s g (reads.foldl (DeviceReading.read s) g) reads := by
  simp only [readsItems, reads_supervisor, reads_quiesced, reads_freeRecords, reads_openSessions, reads_store]
  refine ⟨?_, ?_, ?_, ?_, ?_, ?_, ?_, ?_, ?_, ?_⟩
  · cases g.supervisor <;> simp_all
  · cases g.supervisor <;> simp_all
  · cases g.quiesced <;> simp_all
  · cases g.quiesced <;> simp_all
  · cases g.freeRecords <;> simp_all [ClaimTable.freeCount]
  · cases g.freeRecords <;> simp_all
  · cases g.openSessions <;> simp_all [SessionTable.openSlots]
  · cases g.openSessions <;> simp_all
  · cases g.store <;> simp_all [ProfileStore.items]
  · cases g.store <;> simp_all

/-- The first reads for a QUERY_DEVICE that passes the common checks. -/
theorem execQueryDevice_begins {slot : Slot} {info : SessionInfo} (ha : s.asks p .queryDevice r slot info)
    (hl : r.length = 3) (reads : List DeviceBlock) :
    execQueryDevice p s reads
      = .next ({ s with sessions := s.sessions.reload slot }.readDevice p .unread reads) := by
  have hr := (State.requestAt_eq_some.mp (State.requestOf_eq_some.mp ha.1).1).2.2
  have hd : decodeNone r = .ok () := by simp [decodeNone, ofLength, hl]
  simp [execQueryDevice, hr, State.commonChecks_passed ha hd]

/-- The reads that follow the first. -/
theorem execQueryDevice_goesOn {g : DeviceReading} (hg : (s.ports.get p).reading = some g)
    (reads : List DeviceBlock) : execQueryDevice p s reads = .next (s.readDevice p g reads) := by
  simp [execQueryDevice, hg]

/-! ## The claim-handle checks -/

theorem ClaimTable.resolve_eq_some {t : ClaimTable} {h : WireHandle} {i : RecIdx} :
    t.resolve h = some i ↔ h.low.toNat = i.val ∧ (t.body? i).isSome = true ∧ (t.recs.get i).gen = h.gen := by
  unfold ClaimTable.resolve
  constructor
  · intro hs
    split at hs
    · split at hs
      · next h1 h2 =>
        obtain rfl := Option.some.inj hs
        exact ⟨rfl, h2⟩
      · simp at hs
    · simp at hs
  · rintro ⟨h1, h2⟩
    have hlt : h.low.toNat < 64 := by have := i.isLt; omega
    have he : (⟨h.low.toNat, hlt⟩ : RecIdx) = i := Fin.ext h1
    rw [dif_pos hlt, he, if_pos h2]

theorem ClaimTable.body?_of_live? {t : ClaimTable} {i : RecIdx} {b : ClaimBody} (h : t.live? i = some b) :
    t.body? i = some b := by
  unfold ClaimTable.live? at h
  unfold ClaimTable.body? ClaimState.body?
  split at h <;> simp_all

/-- R3: a LIVE record passes the check of a request that needs one. -/
theorem ClaimTable.liveFor_ok {t : ClaimTable} {h : WireHandle} {mustOwn : Bool} {who : SessionId} {i : RecIdx}
    {b : ClaimBody} (hr : t.resolve h = some i) (hl : t.live? i = some b)
    (ho : mustOwn = true → b.owner = who) : t.liveFor h mustOwn who = .ok (i, b) := by
  have : ¬ (mustOwn = true ∧ b.owner ≠ who) := fun hc => hc.2 (ho hc.1)
  simp only [ClaimTable.liveFor, hr, hl, if_neg this]

/-- R3: a record of its owner passes the check of a request that accepts a RETIRED one. -/
theorem ClaimTable.ownedFor_ok {t : ClaimTable} {h : WireHandle} {who : SessionId} {i : RecIdx} {b : ClaimBody}
    (hr : t.resolve h = some i) (hb : t.body? i = some b) (ho : b.owner = who) : t.ownedFor h who = .ok (i, b) := by
  simp [ClaimTable.ownedFor, hr, hb, ho]

end Sys2Proof.Machine
end

