-- ==== Sys2Proof/Laws/Frames.lean ====
section
/-! SUPPORT. Link frames: what a SUBMIT's bytes must be, what the rise of chip select does, and what is shifted out. -/

namespace Sys2Proof.Machine

/-- R149: the rise ends the open transaction at its port. -/
theorem State.csRise_open {s : State} {p : PortId} {tr : OpenTransaction} {bytes : List Byte} {bits : Fin 8}
    (h : (s.ports.get p).transaction = some tr) :
    s.csRise p bytes bits = s.modifyPort p fun q => q.endTransaction tr bytes bits := by simp [State.csRise, h]

/-- R149: a rise with no transaction in progress changes the pin alone. -/
theorem State.csRise_absent {s : State} {p : PortId} {bytes : List Byte} {bits : Fin 8}
    (h : (s.ports.get p).transaction = none) :
    s.csRise p bytes bits = s.modifyPort p fun q => { q with csLow := false } := by simp [State.csRise, h]

/-- R149, R150: the fall opens a transaction, but for RESETn held low. -/
theorem State.csFall_high {s : State} {p : PortId} (h : (s.ports.get p).csLow = false) :
    s.csFall p = s.modifyPort p fun q => { q with
      csLow := true
      transaction := if s.resetHeld then none else some { stateAtFall := q.state, status := statusByte s p } } := by
  simp [State.csFall, h]

/-- R149: a pin already low has no fall. -/
theorem State.csFall_low {s : State} {p : PortId} (h : (s.ports.get p).csLow = true) : s.csFall p = s := by
  simp [State.csFall, h]

/-- R152, R154: a frame of length, request bytes and matching CRC gives its request bytes. -/
theorem submitRequest_frame {r : List Byte} (h1 : 2 ≤ r.length) (h2 : r.length ≤ 60) :
    submitRequest (submitKind :: (BitVec.ofNat 8 r.length :: r ++ [crc8 (BitVec.ofNat 8 r.length :: r)])) = some r := by
  have hl : r.length % 256 = r.length := by omega
  simp [submitRequest, byteAt, hl, h1, h2]

/-- R152, R154: no other frame gives request bytes. -/
theorem submitRequest_eq_some {bytes r : List Byte} (h : submitRequest (submitKind :: bytes) = some r) :
    2 ≤ r.length ∧ r.length ≤ 60 ∧ bytes = BitVec.ofNat 8 r.length :: r ++ [crc8 (BitVec.ofNat 8 r.length :: r)] := by
  unfold submitRequest at h
  dsimp only at h
  split at h
  · next hc =>
    obtain ⟨ha, hb, hlen, hcrc⟩ := hc
    cases bytes with
    | nil => simp at hlen
    | cons l rest =>
      simp [byteAt] at ha hb hlen hcrc h
      have hrl : r.length = l.toNat := by rw [← h]; simp; omega
      have hL : BitVec.ofNat 8 r.length = l := by rw [hrl]; simp
      refine ⟨by omega, by omega, ?_⟩
      rw [hL]
      have hlt : l.toNat < rest.length := by omega
      have hd : rest.drop l.toNat = [crc8 (l :: r)] := by
        rw [List.drop_eq_getElem_cons hlt, List.drop_eq_nil_of_le (by omega)]
        rw [List.getElem?_eq_getElem hlt] at hcrc
        simp at hcrc
        rw [hcrc, h]
      have hrest : rest = r ++ [crc8 (l :: r)] := by rw [← hd, ← h, List.take_append_drop]
      rw [hrest]; rfl
  · simp at h

/-- R152, R156 to R158: a frame that is no COLLECT of a held response calls for nothing after the status byte. -/
theorem Port.answerFrame_plain (q : Port) (tr : OpenTransaction) (k : Byte) (bytes : List Byte)
    (h : tr.stateAtFall ≠ .answering ∨ k ≠ collectKind) : q.answerFrame tr.stateAtFall (k :: bytes) = [] := by
  unfold Port.answerFrame
  split <;> try rfl
  next h1 _ =>
    rcases h with h | h
    · exact absurd h1 h
    · simp [h]

/-- R152, R156 to R158: but for a COLLECT of a held response, 0x00 follows the status byte. -/
theorem Port.shifted_plain (q : Port) (tr : OpenTransaction) (k : Byte) (bytes : List Byte)
    (h : tr.stateAtFall ≠ .answering ∨ k ≠ collectKind) :
    q.shifted tr (k :: bytes) = tr.status :: List.replicate bytes.length 0#8 := by
  simp [Port.shifted, q.answerFrame_plain tr k bytes h]

/-- R149: so are the bits after the last whole byte. -/
theorem Port.lastBits_plain (q : Port) (tr : OpenTransaction) (k : Byte) (bytes : List Byte) (bits : Fin 8)
    (h : tr.stateAtFall ≠ .answering ∨ k ≠ collectKind) :
    q.lastBits tr (k :: bytes) bits = List.replicate bits.val false := by
  have hb : ∀ k, (0#8).getMsbD k = false := by simp
  simp [Port.lastBits, Port.nextByte, q.answerFrame_plain tr k bytes h, List.eq_replicate_iff, hb]

/-- R149: what was shifted out byte by byte is what stood next after each byte. -/
theorem Port.shifted_getD (q : Port) (tr : OpenTransaction) (bytes : List Byte) {n : Nat} (h : n < bytes.length) :
    (q.shifted tr bytes).getD n 0#8 = q.nextByte tr (bytes.take n) := by
  have hn : (bytes.take n).length = n := by simp; omega
  have hh : n ≠ 0 → (bytes.take n).head? = bytes.head? := by
    intro h0; cases bytes <;> cases n <;> simp_all
  unfold Port.nextByte
  rw [hn]
  by_cases h0 : n = 0
  · subst h0; cases bytes <;> simp_all [Port.shifted]
  · have ha : q.answerFrame tr.stateAtFall (bytes.take n) = q.answerFrame tr.stateAtFall bytes := by
      simp [Port.answerFrame, hh h0]
    rw [ha]
    simp only [Port.shifted, List.getD_eq_getElem?_getD, List.getElem?_take, h, if_true]
    by_cases hl : n < (tr.status :: q.answerFrame tr.stateAtFall bytes).length
    · rw [List.getElem?_append_left hl]
    · rw [List.getElem?_append_right (by omega), List.getElem?_eq_none (by omega : _ ≤ n), List.getElem?_replicate]
      split <;> rfl

/-- R149: SDO during a transaction. -/
theorem sdoPin_open {s : State} {p : PortId} {tr : OpenTransaction} {bytes : List Byte} {bits : Fin 8}
    (hr : s.resetHeld = false) (hc : (s.ports.get p).csLow = true) (h : (s.ports.get p).transaction = some tr) :
    sdoPin s p bytes bits = .driven (((s.ports.get p).nextByte tr bytes).getMsbD bits.val) := by
  simp [sdoPin, hr, hc, h]

/-- R149: SDO is driven exactly while chip select is low and RESETn is not held low. -/
theorem sdoPin_undriven {s : State} {p : PortId} {bytes : List Byte} {bits : Fin 8} :
    sdoPin s p bytes bits = .undriven ↔ s.resetHeld = true ∨ (s.ports.get p).csLow = false := by
  unfold sdoPin
  split
  · simp_all
  · split <;> simp_all

end Sys2Proof.Machine
end

