-- ==== Sys2Proof/Laws/PerInstr.lean ====
section
/-! SUPPORT. One lemma for each command, over the command as syntax: its mnemonic names one row of
spec/opcode_table.json. -/

namespace Sys2Proof.Laws

/-- The mnemonics of spec/opcode_table.json, in its order. -/
def tableMnemonics : List String :=
  ["DEVICE_RESET", "RESET_END", "START_UP_LOAD_COMPLETION", "SUBMIT"]
    ++ ["COLLECT", "PEEK", "CLEAR", "UNKNOWN_FRAME"]
    ++ ["RESPONSE_PRODUCED", "UNKNOWN_REQUEST", "OPEN", "CLOSE"]
    ++ ["KEEPALIVE", "CLAIM", "SET", "SET_IF"]
    ++ ["RENEW", "RELEASE", "TRANSFER", "REVOKE"]
    ++ ["FETCH", "QUERY_CLAIM", "QUERY_CHANNEL", "QUERY_DEVICE"]
    ++ ["CLEAR_FAULT", "RESUME", "PROFILE_READ", "PROFILE_STAGE"]
    ++ ["PROFILE_COMMIT", "PROFILE_DISCARD", "COMMIT_COMPLETION", "WINDOW_END"]
    ++ ["TICK", "LEASE_EXPIRY", "SESSION_LAPSE", "LAPSED_ENTRY"]
    ++ ["CONVERSION_COMPLETION", "CHANNEL_FAULT", "FAULT_NOTICE", "TOP_REPORT"]
    ++ ["VALUE_REPORT", "QUIESCEN_FALL", "QUIESCEN_RISE", "REFCLK_EDGE"]

namespace NamedOnce

/-- The command's mnemonic stands exactly once in the table. -/
def Statement (i : Instr) : Prop := tableMnemonics.count i.mnemonic = 1

theorem deviceReset (reached : WriteReached) (flaws : List Flaw) : Statement (.deviceReset reached flaws) := by
  show tableMnemonics.count "DEVICE_RESET" = 1
  decide
theorem resetEnd : Statement .resetEnd := by
  show tableMnemonics.count "RESET_END" = 1
  decide
theorem startUpLoadCompletion : Statement .startUpLoadCompletion := by
  show tableMnemonics.count "START_UP_LOAD_COMPLETION" = 1
  decide
theorem submit (p : PortId) (x : Transaction) : Statement (.submit p x) := by
  show tableMnemonics.count "SUBMIT" = 1
  decide
theorem collect (p : PortId) (x : Transaction) : Statement (.collect p x) := by
  show tableMnemonics.count "COLLECT" = 1
  decide
theorem peek (p : PortId) (x : Transaction) : Statement (.peek p x) := by
  show tableMnemonics.count "PEEK" = 1
  decide
theorem clear (p : PortId) (x : Transaction) : Statement (.clear p x) := by
  show tableMnemonics.count "CLEAR" = 1
  decide
theorem unknownFrame (p : PortId) (x : Transaction) : Statement (.unknownFrame p x) := by
  show tableMnemonics.count "UNKNOWN_FRAME" = 1
  decide
theorem responseProduced (p : PortId) : Statement (.responseProduced p) := by
  show tableMnemonics.count "RESPONSE_PRODUCED" = 1
  decide
theorem unknownRequest (p : PortId) : Statement (.unknownRequest p) := by
  show tableMnemonics.count "UNKNOWN_REQUEST" = 1
  decide
theorem openSession (p : PortId) : Statement (.openSession p) := by
  show tableMnemonics.count "OPEN" = 1
  decide
theorem closeSession (p : PortId) : Statement (.closeSession p) := by
  show tableMnemonics.count "CLOSE" = 1
  decide
theorem keepalive (p : PortId) : Statement (.keepalive p) := by
  show tableMnemonics.count "KEEPALIVE" = 1
  decide
theorem claim (p : PortId) : Statement (.claim p) := by
  show tableMnemonics.count "CLAIM" = 1
  decide
theorem set (p : PortId) : Statement (.set p) := by
  show tableMnemonics.count "SET" = 1
  decide
theorem setIf (p : PortId) : Statement (.setIf p) := by
  show tableMnemonics.count "SET_IF" = 1
  decide
theorem renew (p : PortId) : Statement (.renew p) := by
  show tableMnemonics.count "RENEW" = 1
  decide
theorem release (p : PortId) : Statement (.release p) := by
  show tableMnemonics.count "RELEASE" = 1
  decide
theorem transfer (p : PortId) : Statement (.transfer p) := by
  show tableMnemonics.count "TRANSFER" = 1
  decide
theorem revoke (p : PortId) : Statement (.revoke p) := by
  show tableMnemonics.count "REVOKE" = 1
  decide
theorem fetch (p : PortId) : Statement (.fetch p) := by
  show tableMnemonics.count "FETCH" = 1
  decide
theorem queryClaim (p : PortId) : Statement (.queryClaim p) := by
  show tableMnemonics.count "QUERY_CLAIM" = 1
  decide
theorem queryChannel (p : PortId) : Statement (.queryChannel p) := by
  show tableMnemonics.count "QUERY_CHANNEL" = 1
  decide
theorem queryDevice (p : PortId) (reads : List DeviceBlock) : Statement (.queryDevice p reads) := by
  show tableMnemonics.count "QUERY_DEVICE" = 1
  decide
theorem clearFault (p : PortId) : Statement (.clearFault p) := by
  show tableMnemonics.count "CLEAR_FAULT" = 1
  decide
theorem resume (p : PortId) : Statement (.resume p) := by
  show tableMnemonics.count "RESUME" = 1
  decide
theorem profileRead (p : PortId) : Statement (.profileRead p) := by
  show tableMnemonics.count "PROFILE_READ" = 1
  decide
theorem profileStage (p : PortId) : Statement (.profileStage p) := by
  show tableMnemonics.count "PROFILE_STAGE" = 1
  decide
theorem profileCommit (p : PortId) : Statement (.profileCommit p) := by
  show tableMnemonics.count "PROFILE_COMMIT" = 1
  decide
theorem profileDiscard (p : PortId) : Statement (.profileDiscard p) := by
  show tableMnemonics.count "PROFILE_DISCARD" = 1
  decide
theorem commitCompletion (flaws : List Flaw) (order : ActivationOrder) : Statement (.commitCompletion flaws order) := by
  show tableMnemonics.count "COMMIT_COMPLETION" = 1
  decide
theorem windowEnd : Statement .windowEnd := by
  show tableMnemonics.count "WINDOW_END" = 1
  decide
theorem tick (takers : List TickTaker) : Statement (.tick takers) := by
  show tableMnemonics.count "TICK" = 1
  decide
theorem leaseExpiry : Statement .leaseExpiry := by
  show tableMnemonics.count "LEASE_EXPIRY" = 1
  decide
theorem sessionLapse : Statement .sessionLapse := by
  show tableMnemonics.count "SESSION_LAPSE" = 1
  decide
theorem lapsedEntry : Statement .lapsedEntry := by
  show tableMnemonics.count "LAPSED_ENTRY" = 1
  decide
theorem conversionCompletion (input : Int) : Statement (.conversionCompletion input) := by
  show tableMnemonics.count "CONVERSION_COMPLETION" = 1
  decide
theorem channelFault (c : Chan) : Statement (.channelFault c) := by
  show tableMnemonics.count "CHANNEL_FAULT" = 1
  decide
theorem faultNotice (c : Chan) : Statement (.faultNotice c) := by
  show tableMnemonics.count "FAULT_NOTICE" = 1
  decide
theorem topReport (c : Chan) : Statement (.topReport c) := by
  show tableMnemonics.count "TOP_REPORT" = 1
  decide
theorem valueReport (c : Chan) : Statement (.valueReport c) := by
  show tableMnemonics.count "VALUE_REPORT" = 1
  decide
theorem quiescenFall : Statement .quiescenFall := by
  show tableMnemonics.count "QUIESCEN_FALL" = 1
  decide
theorem quiescenRise : Statement .quiescenRise := by
  show tableMnemonics.count "QUIESCEN_RISE" = 1
  decide
theorem refclkEdge : Statement .refclkEdge := by
  show tableMnemonics.count "REFCLK_EDGE" = 1
  decide

end NamedOnce

end Sys2Proof.Laws
end

