-- ==== Sys2Proof/Tests/Slice0.lean ====
section
/-! SUPPORT. The model's own tests: ill-formed commands refused, one step of each command against the worked sequences of
spec/, and for each statement with hypotheses a state and operands that meet them. -/

set_option Elab.async false

namespace Sys2Proof.Tests

open Sys2Proof.Machine

/-! ## States to test on -/

/-- The state a command leaves. -/
def after (c : Instr) (s : State) : State :=
  match exec c s with
  | .next t => t
  | .fault _ => s
  | .refused _ => s

/-- A part whose start-up load has ended over the built-in defaults, with the timebase LOCKED. -/
def running : State :=
  { State.reset with
    resetHeld := false
    ports := ⟨{ resetPort with state := .ready }, { resetPort with state := .ready }⟩
    outputs := { quiesced := false, chans := .replicate { resetChannel with outputState := .enabled }, carrier := 0 }
    monitor := { resetMonitor with state := .waiting }
    supervisor := { resetSupervisor with
      state := .locked, refPresent := true, goodRun := 16, source := .refclkEdges, producing := true }
    store := { State.reset.store with loadInProgress := false } }

/-- Port `p` WORKING on a request with these bytes. -/
def asking (p : PortId) (r : List Byte) (s : State) : State :=
  s.modifyPort p fun q => { q with state := .working, inFlight := some ⟨r, false⟩ }

/-- Chip select of port 0 low since the port stood as it stands, with this status byte. -/
def selected (status : Byte) (s : State) : State :=
  s.modifyPort .port0 fun q => { q with csLow := true, transaction := some ⟨q.state, status⟩ }

/-- The response port `p` has coming. -/
def response (p : PortId) (s : State) : Option (List Byte) := (s.ports.get p).produced

def primary : SessionInfo := ⟨.port0, .control, 0x0A01#16, 100, 40⟩
def standby : SessionInfo := ⟨.port0, .control, 0x0A02#16, 100, 60⟩
def protection : SessionInfo := ⟨.port1, .control, 0x0B01#16, 200, 150⟩
def keeper : SessionInfo := ⟨.port1, .maintenance, 0x0B02#16, 500, 400⟩

/-- Session records in slots 0 up, the rest as at reset. -/
def sessionsOf (l : List Session) : Table 8 Session :=
  .ofFn fun slot => l.getD slot.val ⟨0#8, .closed⟩

/-- Four OPEN sessions, 0/1 to 3/1, and slot 4 LAPSED. -/
def peopled : State :=
  { running with sessions :=
      { recs := sessionsOf [⟨1#8, .opened primary⟩, ⟨1#8, .opened standby⟩, ⟨1#8, .opened protection⟩,
          ⟨1#8, .opened keeper⟩, ⟨1#8, .lapsed⟩]
        lapseList := [4] } }

/-- A LIVE record of generation 1. -/
def live (slot : Slot) (priority : Nat) (pairs : List Pair) (lease remaining : Nat) (epoch : BitVec 8)
    (tag : Option (BitVec 16)) : ClaimRecord :=
  ⟨1#8, .live ⟨⟨slot, 1#8⟩, priority, pairs, lease, remaining, epoch, tag⟩⟩

def body0 : ClaimBody := ⟨⟨0, 1#8⟩, 8, [⟨4, 600⟩, ⟨5, 400⟩, ⟨9, 300⟩], 500, 320, 3#8, some 0x0101#16⟩
def body1 : ClaimBody := ⟨⟨1, 1#8⟩, 4, [⟨4, 600⟩, ⟨5, 400⟩], 500, 450, 0#8, none⟩
def body2 : ClaimBody := ⟨⟨2, 1#8⟩, 14, [⟨5, 0⟩, ⟨9, 0⟩], 200, 1, 0#8, none⟩
def body63 : ClaimBody := ⟨⟨0, 1#8⟩, 2, [⟨47, 1023⟩], 50, 0, 0#8, none⟩

/-- The stacks of spec/01_claims_and_holder_stacks.md after step 3, with a RETIRED record in the last place. -/
def stacked : ClaimTable :=
  { recs := .ofFn fun i =>
      if i.val = 0 then ⟨1#8, .live body0⟩ else if i.val = 1 then ⟨1#8, .live body1⟩
      else if i.val = 2 then ⟨1#8, .live body2⟩ else if i.val = 63 then ⟨1#8, .retired body63 .expired⟩
      else ⟨0#8, .free⟩
    holders := .ofFn fun c =>
      if c.val = 4 then [0, 1] else if c.val = 5 then [2, 0, 1] else if c.val = 9 then [2, 0] else [] }

/-- The four sessions over those claims, with entries waiting for session 0/1. -/
def occupied : State :=
  { peopled with
    claims := stacked
    attention := (Table.replicate []).set 0
      [.claim ⟨0, 1#8⟩ 0x01#8, .device .timebase, .claim ⟨63, 1#8⟩ 0x04#8] }

theorem occupied_stacks : StacksInv occupied := by decide +kernel

theorem occupied_leases : LeasesInv occupied := by decide +kernel

theorem occupied_owners : OwnersInv occupied := by decide +kernel

theorem occupied_lists : ListsInv occupied := by
  have entries : ∀ slot, ∀ e ∈ occupied.attention.get slot,
      (match e with
      | .claim h rs => rs != 0#8 && h == occupied.claims.handle h.index
          && occupied.claims.ownerSlot h.index == some slot
      | .device _ => true) = true := by decide +kernel
  have retired : ∀ i, (match (occupied.claims.recs.get i).state with
      | .retired b why => b == body63 && why == .expired && i == 63
      | .free => true
      | .live _ => true) = true := by decide +kernel
  refine ⟨occupied_owners, by decide +kernel, fun slot k => ?_, fun slot h rs he => ?_, fun i b why hr => ?_⟩
  · revert slot; cases k <;> decide +kernel
  · simpa [and_assoc] using entries slot _ he
  · have hi := retired i
    rw [hr] at hi
    simp only [Bool.and_eq_true, beq_iff_eq] at hi
    obtain ⟨⟨rfl, rfl⟩, rfl⟩ := hi
    exact ⟨0x04#8, by decide +kernel⟩

/-! ## Ill-formed commands -/

/-- R142, R146: an erase that tells of no byte. -/
theorem test_wellFormed_erase : (Instr.deviceReset (.erasing []) []).wellFormed = false := by decide

/-- R142: a write of 543 bytes. -/
theorem test_wellFormed_write : (Instr.deviceReset (.writing 543) []).wellFormed = false := by decide

/-- R133: a flaw at byte 542, past the copy. -/
theorem test_wellFormed_flaw : (Instr.deviceReset (.writing 542) [⟨542, 0#8⟩]).wellFormed = false
    ∧ (Instr.commitCompletion [⟨542, 0#8⟩] .outputFirst).wellFormed = false := by decide

/-- R153: a frame of a known kind is not of unknown kind. -/
theorem test_wellFormed_kind : (Instr.unknownFrame .port0 (.whole [0x0F#8])).wellFormed = false
    ∧ (Instr.unknownFrame .port0 (.rise [0x01#8, 0#8])).wellFormed = false := by decide

/-- R118: a block takes each tick once. -/
theorem test_wellFormed_tick : (Instr.tick [.claimTable, .claimTable]).wellFormed = false := by decide

/-- R173: QUERY_DEVICE reads a block once. -/
theorem test_wellFormed_reads : (Instr.queryDevice .port0 [.claimTable, .claimTable]).wellFormed = false := by
  decide

/-- The last byte, the last flaw, an unknown kind and the five blocks are well formed. -/
theorem test_wellFormed_accepts : (Instr.deviceReset (.writing 542) [⟨541, 0#8⟩]).wellFormed = true
    ∧ (Instr.unknownFrame .port1 (.whole [0x77#8])).wellFormed = true
    ∧ (Instr.tick TickTaker.all).wellFormed = true
    ∧ (Instr.queryDevice .port0 DeviceBlock.all).wellFormed = true := by decide

/-- The table gives no row bits, so no word spells a command. -/
theorem test_decodeTableWord : decodeTableWord 8 0 = none := by decide

/-! ## Frames and responses: spec/09_link_ports_and_framing.md -/

/-- R151: the CRCs of the KEEPALIVE frame and of its response. -/
theorem test_crc8 : crc8 [0x03#8, 0x03#8, 0x01#8, 0x00#8] = 0x92#8
    ∧ crc8 [0x06#8, 0x03#8, 0x00#8, 0x00#8, 0x64#8, 0x00#8, 0x00#8] = 0xD9#8 := by decide +kernel

/-- The KEEPALIVE frame of the worked sequence, after its kind byte. -/
def keepaliveFrame : List Byte := [0x03#8, 0x03#8, 0x01#8, 0x00#8, 0x92#8]

/-- Port 0 of the worked sequence ANSWERING with the KEEPALIVE response. -/
def answering : State :=
  peopled.modifyPort .port0 fun q => { q with state := .answering, buffer := some [3#8, 0#8, 0#8, 0x64#8, 0#8, 0#8] }

theorem test_peek : (after (.peek .port0 (.whole [])) peopled).ports.port0.shiftedOut = [0x44#8] := by decide +kernel

theorem test_submit_accepted :
    let t := after (.submit .port0 (.whole keepaliveFrame)) peopled
    t.ports.port0.inFlight = some ⟨[3#8, 1#8, 0#8], false⟩ ∧ t.ports.port0.state = .working
      ∧ t.ports.port0.shiftedOut = [0x44#8, 0#8, 0#8, 0#8, 0#8, 0#8] := by decide +kernel

/-- Byte 5 arrives as 0x93: the next status byte is 0x54. -/
theorem test_submit_dropped :
    statusByte (after (.submit .port0 (.whole [3#8, 3#8, 1#8, 0#8, 0x93#8])) peopled) .port0 = 0x54#8 := by
  decide +kernel

theorem test_keepalive :
    let t := after (.keepalive .port0) (asking .port0 [3#8, 1#8, 0#8] peopled)
    response .port0 t = some [3#8, 0#8, 0#8, 0x64#8, 0#8, 0#8]
      ∧ (t.sessions.info? 0).map SessionInfo.remaining = some 100 := by decide +kernel

theorem test_responseProduced :
    let s := (asking .port0 [3#8, 1#8, 0#8] peopled).answer .port0 3#8 (okWith [])
    statusByte (after (.responseProduced .port0) s) .port0 = 0xC4#8 := by decide +kernel

theorem test_collect_whole :
    let t := after (.collect .port0 (.whole (List.replicate 8 0#8))) answering
    t.ports.port0.shiftedOut = [0xC4#8, 6#8, 3#8, 0#8, 0#8, 0x64#8, 0#8, 0#8, 0xD9#8]
      ∧ t.ports.port0.buffer = none ∧ statusByte t .port0 = 0x44#8 := by decide +kernel

/-- Chip select rises after byte 5: the response stays. -/
theorem test_collect_cut :
    let t := after (.collect .port0 (.whole (List.replicate 5 0#8))) answering
    t.ports.port0.buffer = answering.ports.port0.buffer ∧ t.ports.port0.state = .answering := by decide +kernel

/-- R149: chip select rises three bits into the 0x64 of that response: the master has seen 0, 1, 1 of it. -/
theorem test_collect_bits :
    let t := after (.collect .port0 (.whole (List.replicate 4 0#8) 3)) answering
    t.ports.port0.shiftedOut = [0xC4#8, 6#8, 3#8, 0#8, 0#8] ∧ t.ports.port0.shiftedBits = [false, true, true] := by
  decide +kernel

/-- R149: SDO is driven from the fall of chip select, bit 7 of the status byte 0xC4 first, and not before or after. -/
theorem test_sdoPin :
    let low := after (.collect .port0 .fall) answering
    sdoPin answering .port0 [] 0 = .undriven ∧ sdoPin low .port0 [] 0 = .driven true
      ∧ sdoPin low .port0 [] 2 = .driven false ∧ sdoPin low .port0 [2#8] 5 = .driven true
      ∧ sdoPin low .port1 [] 0 = .undriven ∧ sdoPin (after (.collect .port0 (.rise [])) low) .port0 [] 0 = .undriven := by
  decide +kernel

/-- R148, R149: a device reset abandons the transaction and stops SDO; the rise that follows is no frame. -/
theorem test_sdoPin_reset :
    let low := after (.submit .port0 .fall) peopled
    let held := after (.deviceReset (.writing 0) []) low
    let t := after (.submit .port0 (.rise keepaliveFrame)) (after .resetEnd held)
    sdoPin held .port0 [] 0 = .undriven ∧ held.ports.port0.csLow = true ∧ t.ports.port0 = resetPort := by
  decide +kernel

/-- A CLEAR during WORKING abandons the request in flight. -/
theorem test_clear :
    let t := after (.clear .port0 (.whole [])) (asking .port0 [0x20#8, 1#8, 0#8] peopled)
    t.ports.port0.state = .ready ∧ t.ports.port0.inFlight = some ⟨[0x20#8, 1#8, 0#8], true⟩ := by decide +kernel

/-- The abandoned response is taken during the CLEAR frame, and the waiting request handed on: it is abandoned in turn. -/
theorem test_clear_handed_on :
    let s := peopled.modifyPort .port0 fun q => { q with
      state := .working, inFlight := some ⟨[3#8, 0#8, 0#8], true⟩, waiting := some [0x20#8, 1#8, 0#8]
      produced := some [3#8, 4#8] }
    let t := after (.clear .port0 (.rise [])) (after (.responseProduced .port0) (after (.clear .port0 .fall) s))
    t.ports.port0.state = .ready ∧ t.ports.port0.inFlight = some ⟨[0x20#8, 1#8, 0#8], true⟩ := by decide +kernel

theorem test_unknownFrame :
    let t := after (.unknownFrame .port0 (.whole [0x77#8])) peopled
    t.ports.port0.dropped = true ∧ t.ports.port0.state = .ready := by decide +kernel

/-! ## Requests: spec/10_request_set_and_result_codes.md and each owner's worked sequence -/

/-- R163 step 1: the code is echoed with UNKNOWN_REQUEST. -/
theorem test_unknownRequest :
    response .port0 (after (.unknownRequest .port0) (asking .port0 [0x99#8, 1#8, 0#8] peopled)) = some [0x99#8, 1#8] := by
  decide +kernel

/-- The primary returns with slots 4 to 7 CLOSED but one: session 5/1 on port 0, over a normal device. -/
theorem test_open : response .port0
    (after (.openSession .port0) (asking .port0 [1#8, 0#8, 0#8, 0#8, 0x0C#8, 0x01#8, 0#8, 100#8] peopled))
      = some [1#8, 0#8, 1#8, 5#8, 15#8, 0#8, 0#8, 0#8, 0#8, 0#8, 1#8, 0#8] := by decide +kernel

/-- spec/03_sessions.md: a returning master's old handle is SESSION_LAPSED and its slot becomes CLOSED. -/
theorem test_lapsed_handle :
    let t := after (.keepalive .port0) (asking .port0 [3#8, 1#8, 4#8] peopled)
    response .port0 t = some [3#8, 6#8] ∧ (t.sessions.recs.get 4).state = .closed ∧ t.sessions.lapseList = [] := by
  decide +kernel

theorem test_close :
    let t := after (.closeSession .port0) (asking .port0 [2#8, 1#8, 0#8] occupied)
    response .port0 t = some [2#8, 0#8] ∧ t.claims.holders.get 4 = [1] ∧ t.attention.get 0 = []
      ∧ t.claims.freeCount = 62 := by decide +kernel

/-- The CLAIM of step 1 in spec/01_claims_and_holder_stacks.md. -/
def claimStep1 : List Byte :=
  [0x10#8, 1#8, 0#8, 8#8, 0#8, 0x01#8, 0xF4#8, 1#8, 0x01#8, 0x01#8, 3#8, 4#8, 0x02#8, 0x58#8, 5#8, 0x01#8, 0x90#8,
   9#8, 0x01#8, 0x2C#8]

/-- Step 1: claim 0/1, epoch 0, DRIVING, and the report of C4 at 600. -/
theorem test_claim :
    let t := after (.claim .port0) (asking .port0 claimStep1 peopled)
    response .port0 t = some [0x10#8, 0#8, 1#8, 0#8, 0#8, 0#8] ∧ t.claims.holders.get 9 = [0]
      ∧ t.transit.reports.get 4 = [.newTop ⟨0, 1#8⟩ 600] := by decide +kernel

/-- Step 2: priority 5, IMMEDIATE, on C9 below its top, is NOT_TOP and names channel 9. -/
theorem test_claim_notTop : response .port0 (after (.claim .port0)
    (asking .port0 [0x10#8, 1#8, 1#8, 5#8, 0#8, 0#8, 100#8, 0#8, 0#8, 0#8, 1#8, 9#8, 0x01#8, 0x2C#8] occupied))
      = some [0x10#8, 22#8, 9#8] := by decide +kernel

/-- Step 4: a SET of C4 and C5 is reported on C4 alone, where the claim is on top. -/
theorem test_set :
    let t := after (.set .port0)
      (asking .port0 [0x11#8, 1#8, 0#8, 1#8, 0#8, 2#8, 4#8, 0x02#8, 0x8A#8, 5#8, 0x01#8, 0xA4#8] occupied)
    t.transit.reports.get 4 = [.newValue 650] ∧ t.transit.reports.get 5 = [] ∧ t.claims.valueOn 0 5 = 420 := by
  decide +kernel

/-- R18: C9 holds 300, not the 301 expected. -/
theorem test_setIf : response .port0 (after (.setIf .port0)
    (asking .port0 [0x12#8, 1#8, 0#8, 1#8, 0#8, 9#8, 0x01#8, 0x2D#8, 0#8, 5#8] occupied))
      = some [0x12#8, 24#8, 0x01#8, 0x2C#8] := by decide +kernel

/-- spec/02_leases_renewal_and_expiry.md: the epoch advances and the remaining count is reloaded. -/
theorem test_renew : response .port0 (after (.renew .port0)
    (asking .port0 [0x13#8, 1#8, 0#8, 1#8, 0#8, 3#8] occupied))
      = some [0x13#8, 0#8, 4#8, 0x01#8, 0xF4#8, 0x01#8, 0xF4#8] := by decide +kernel

/-- The retry with the old epoch is STALE_EPOCH. -/
theorem test_renew_stale : response .port0 (after (.renew .port0)
    (asking .port0 [0x13#8, 1#8, 0#8, 1#8, 0#8, 2#8] occupied)) = some [0x13#8, 11#8, 3#8] := by decide +kernel

/-- Step 5: the supervisor releases; claim 0/1 comes to the top of C5 and C9 and its entry gains RESUMED. -/
theorem test_release :
    let t := after (.release .port1) (asking .port1 [0x14#8, 1#8, 2#8, 1#8, 2#8] occupied)
    t.claims.holders.get 5 = [0, 1] ∧ t.transit.reports.get 9 = [.newTop ⟨0, 1#8⟩ 300]
      ∧ (t.attention.get 0).head? = some (.claim ⟨0, 1#8⟩ 0x03#8) := by decide +kernel

/-- spec/03_sessions.md step 1: the owner changes and the new owner is told ADOPTED. -/
theorem test_transfer :
    let t := after (.transfer .port0)
      (asking .port0 [0x15#8, 1#8, 0#8, 1#8, 0#8, 3#8, 1#8, 1#8] occupied)
    t.claims.ownerSlot 0 = some 1 ∧ t.attention.get 1 = [.claim ⟨0, 1#8⟩ 0x81#8] ∧ (t.attention.get 0).length = 2 := by
  decide +kernel

theorem test_revoke :
    let t := after (.revoke .port1) (asking .port1 [0x16#8, 1#8, 3#8, 1#8, 2#8] occupied)
    (t.claims.recs.get 2).state = .retired body2 .revoked ∧ t.attention.get 2 = [.claim ⟨2, 1#8⟩ 0x10#8] := by
  decide +kernel

/-- A FETCH reports claim 0/1, tag 0x0101, PREEMPTED, LIVE, PARTIAL, and two entries still pending. -/
theorem test_fetch : response .port0 (after (.fetch .port0) (asking .port0 [0x20#8, 1#8, 0#8] occupied))
    = some [0x20#8, 0#8, 0#8, 2#8, 1#8, 0#8, 1#8, 0x01#8, 0x01#8, 0x01#8, 1#8, 1#8] := by decide +kernel

theorem test_queryClaim : response .port0 (after (.queryClaim .port0)
    (asking .port0 [0x30#8, 1#8, 0#8, 1#8, 1#8] occupied))
      = some [0x30#8, 0#8, 1#8, 1#8, 1#8, 1#8, 1#8, 4#8, 0#8, 0#8, 0#8, 0x01#8, 0xF4#8, 0x01#8, 0xC2#8, 0#8, 2#8, 2#8,
          4#8, 0x02#8, 0x58#8, 5#8, 0x01#8, 0x90#8] := by decide +kernel

theorem test_queryChannel : response .port0 (after (.queryChannel .port0)
    (asking .port0 [0x31#8, 1#8, 0#8, 9#8] occupied))
      = some [0x31#8, 0#8, 9#8, 0#8, 0#8, 0#8, 0#8, 0#8, 0#8, 0#8, 0#8, 0x03#8, 0xFF#8, 0#8, 2#8,
          1#8, 2#8, 1#8, 2#8, 14#8, 0#8, 0#8, 1#8, 0#8, 1#8, 0#8, 8#8, 0x01#8, 0x2C#8] := by decide +kernel

/-- LOCKED, reference present, not quiesced, 60 FREE records, 4 OPEN sessions. -/
theorem test_queryDevice : response .port0 (after (.queryDevice .port0)
    (asking .port0 [0x32#8, 1#8, 0#8] occupied))
      = some [0x32#8, 0#8, 1#8, 1#8, 0#8, 60#8, 4#8, 0#8, 0#8, 0#8, 0#8, 0#8, 0#8, 0#8] := by decide +kernel

/-- R173: the bad window end between two reads shows in the second item alone, and the pin's fall in neither. -/
theorem test_queryDevice_apart :
    let s := after (.queryDevice .port0 [.outputStage]) (asking .port0 [0x32#8, 1#8, 0#8] occupied)
    let t := after .quiescenFall (after .windowEnd s)
    response .port0 t = none ∧ response .port0 (after (.queryDevice .port0) t)
      = some [0x32#8, 0#8, 2#8, 0#8, 0#8, 60#8, 4#8, 0#8, 0#8, 0#8, 0#8, 0#8, 0#8, 0#8] := by decide +kernel

/-! ## Outputs and readback: spec/05_channel_outputs_and_ramps.md, spec/06_readback_monitor.md -/

/-- Channel `c` of a state changed. -/
def withChannel (c : Chan) (f : Channel → Channel) (s : State) : State :=
  { s with outputs := { s.outputs with chans := s.outputs.chans.modify c f } }

/-- C7 with rest value 100 and rate 20, on its way from 100 to 400; C8 at rate 0. -/
def ramping : State :=
  withChannel 7 (fun ch => { ch with
    topValue := some 400, target := 400, output := 100, rest := 100, rate := 20, rampState := .ramping }) occupied

theorem test_topReport :
    let t := after (.topReport 8)
      { ramping with transit := ramping.transit.send 8 (.newTop ⟨3, 1#8⟩ 512) }
    (t.outputs.chans.get 8).output = 512 ∧ (t.outputs.chans.get 8).rampState = .settled := by decide +kernel

/-- Step 3: the value report turns the ramp back without a jump. -/
theorem test_valueReport :
    let t := after (.valueReport 7)
      { ramping with transit := ramping.transit.send 7 (.newValue 50) }
    (t.outputs.chans.get 7).target = 50 ∧ (t.outputs.chans.get 7).output = 100
      ∧ (t.outputs.chans.get 7).rampState = .ramping := by decide +kernel

/-- Tick 1: 100 becomes 120. -/
theorem test_tick :
    let t := after (.tick [.outputStage]) ramping
    (t.outputs.chans.get 7).output = 120 ∧ t.transit.ticks = ⟨1, 1, 0, 1, 1⟩ := by decide +kernel

/-- Step 4: QUIESCEn falls; C7 steps to its rest value, its top value kept, and session 0/1 is told. -/
theorem test_quiescenFall :
    let t := after .quiescenFall ramping
    t.outputs.chans.get 7 = { ramping.outputs.chans.get 7 with target := 100, output := 100, rampState := .settled }
      ∧ t.attention.get 1 = [.device .quiesce] := by decide +kernel

/-- Step 6: QUIESCEn rises; C7 ramps again from its rest value. -/
theorem test_quiescenRise :
    let t := after .quiescenRise (after .quiescenFall ramping)
    (t.outputs.chans.get 7).target = 400 ∧ (t.outputs.chans.get 7).output = 100
      ∧ (t.outputs.chans.get 7).rampState = .ramping := by decide +kernel

/-- C21, readback-enabled, converting with output at start 500 and two misses counted. -/
def converting : State :=
  { occupied with monitor :=
      { state := .converting ⟨21, 500, false⟩, scanPos := 22
        chans := .ofFn fun c => ⟨if c.val = 21 then 2 else 0, c.val == 20 || c.val == 21, 16, 3⟩ } }

/-- A reading of 301 misses 500 by 199; the limit of 3 is reached and the fault is reported. The search finds C20. -/
theorem test_conversion_fault :
    let t := after (.conversionCompletion 301) converting
    (t.monitor.chans.get 21).missCount = 0 ∧ t.transit.faultReports = [21]
      ∧ t.monitor.state = .converting ⟨20, 0, false⟩ := by decide +kernel

/-- A reading of 484 lies at the tolerance. -/
theorem test_conversion_within :
    let t := after (.conversionCompletion 484) converting
    (t.monitor.chans.get 21).missCount = 0 ∧ t.transit.faultReports = [] := by decide +kernel

theorem test_channelFault :
    let t := after (.channelFault 7)
      { ramping with transit := { ramping.transit with faultReports := [7] } }
    (t.outputs.chans.get 7).condition = .faulted ∧ (t.outputs.chans.get 7).output = 100
      ∧ t.transit.faultNotices = [7] := by decide +kernel

theorem test_faultNotice :
    let t := after (.faultNotice 4)
      { occupied with transit := { occupied.transit with faultNotices := [4] } }
    t.attention.get 1 = [.claim ⟨1, 1#8⟩ 0x20#8] ∧ (t.attention.get 0).head? = some (.claim ⟨0, 1#8⟩ 0x21#8) := by
  decide +kernel

/-- C4 FAULTED at rest with top value 600. -/
def faulted : State :=
  withChannel 4 (fun ch => { ch with condition := .faulted, topValue := some 600 }) occupied

theorem test_clearFault :
    let t := after (.clearFault .port0) (asking .port0 [0x40#8, 1#8, 0#8, 4#8] faulted)
    (t.outputs.chans.get 4).condition = .normal ∧ (t.outputs.chans.get 4).output = 600
      ∧ t.attention.get 1 = [.claim ⟨1, 1#8⟩ 0x40#8] := by decide +kernel

/-! ## The timebase: spec/07_timebase_supervisor.md -/

/-- The part without its reference, `n` ticks from LAPSED. -/
def holding (n : Nat) : State :=
  { occupied with supervisor := { occupied.supervisor with
      state := .holdover, refPresent := false, goodRun := 0, source := .internalPeriods
      holdoverRemaining := some n } }

/-- Step 1: a window without an edge; HOLDOVER with a full countdown. -/
theorem test_windowEnd :
    let t := after .windowEnd occupied
    t.supervisor.state = .holdover ∧ t.supervisor.refPresent = false ∧ t.supervisor.holdoverRemaining = some 2000
      ∧ t.attention.get 1 = [.device .timebase] := by decide +kernel

/-- The edge that reaches the prescaler hands a tick to every block. -/
theorem test_refclkEdge :
    let t := after .refclkEdge
      { occupied with supervisor := { occupied.supervisor with dividerCount := 999 } }
    t.supervisor.dividerCount = 0 ∧ t.transit.ticks = ⟨1, 1, 1, 1, 1⟩ := by decide +kernel

/-- R124: a tick made in LOCKED does not shorten the countdown that begins after it. -/
theorem test_holdover_full :
    let s := { occupied with supervisor := { occupied.supervisor with dividerCount := 999 } }
    let t := after (.tick [.supervisor]) (after .windowEnd (after .refclkEdge s))
    t.supervisor.state = .holdover ∧ t.supervisor.holdoverRemaining = some 2000 := by decide +kernel

/-- Step 4: the sweep retires every LIVE record with its count as it stands. -/
theorem test_lapsedEntry :
    let t := after .lapsedEntry
      { holding 1 with transit := { (holding 1).transit with ticks := ⟨0, 0, 0, 0, 1⟩ } }
    t.supervisor.state = .lapsed ∧ t.claims.recs.get 0 = ⟨1#8, .retired body0 .swept⟩ ∧ t.claims.holders.get 5 = []
      ∧ t.transit.reports.get 5 = [.emptyStack] := by decide +kernel

/-- Step 5: with reference-present clear, RESUME is NO_REFERENCE. -/
theorem test_resume_refused : response .port1 (after (.resume .port1)
    (asking .port1 [0x41#8, 1#8, 3#8] (holding 5))) = some [0x41#8, 29#8, 2#8, 0#8] := by decide +kernel

theorem test_resume :
    let t := after (.resume .port1) (asking .port1 [0x41#8, 1#8, 3#8]
      { holding 5 with supervisor := { (holding 5).supervisor with refPresent := true, goodRun := 16 } })
    response .port1 t = some [0x41#8, 0#8, 1#8, 1#8] ∧ t.supervisor.source = .refclkEdges := by decide +kernel

/-- spec/02_leases_renewal_and_expiry.md: claim 2/1 stands at 1; at the tick it retires EXPIRED and the others lose one. -/
theorem test_leaseExpiry :
    let t := after .leaseExpiry
      { occupied with transit := { occupied.transit with ticks := ⟨1, 0, 0, 0, 0⟩ } }
    t.claims.recs.get 2 = ⟨1#8, .retired { body2 with remaining := 0 } .expired⟩
      ∧ t.attention.get 2 = [.claim ⟨2, 1#8⟩ 0x04#8] ∧ t.transit.reports.get 9 = [.newTop ⟨0, 1#8⟩ 300] := by
  decide +kernel

/-- spec/03_sessions.md step 4: session 2/1 lapses; its record is freed and its slot joins the lapse list. -/
theorem test_sessionLapse :
    let s := { occupied with
      sessions := { occupied.sessions with
        recs := occupied.sessions.recs.set 2 ⟨1#8, .opened { protection with remaining := 1 }⟩ }
      transit := { occupied.transit with ticks := ⟨0, 1, 0, 0, 0⟩ } }
    let t := after .sessionLapse s
    (t.sessions.recs.get 2).state = .lapsed ∧ t.sessions.lapseList = [4, 2] ∧ t.claims.recs.get 2 = ⟨1#8, .free⟩
      ∧ t.claims.holders.get 9 = [0] := by decide +kernel

/-! ## The profile store: spec/08_rest_profile_store.md -/

/-- The staging profile with C7 at rest 150 above its high limit 120. -/
def staged : Profile :=
  { defaultProfile with chans := defaultProfile.chans.modify 7 fun k => { k with rest := 150, high := 120 } }

/-- The four sessions over a free pool, the active copy A at generation 41. -/
def storing : State :=
  { peopled with store := { peopled.store with
      active := { defaultProfile with generation := 41#32 }, activeCopy := some .copyA, staging := staged } }

theorem test_profileStage :
    let t := after (.profileStage .port1)
      (asking .port1 [0x51#8, 1#8, 3#8, 0x12#8, 7#8, 0#8, 200#8] storing)
    response .port1 t = some [0x51#8, 0#8] ∧ t.store.staging.field .high 7 = 200
      ∧ t.store.staging.field .rest 7 = 150 := by decide +kernel

/-- Step 1: the generation cannot be staged. -/
theorem test_profileStage_generation : response .port1 (after (.profileStage .port1)
    (asking .port1 [0x51#8, 1#8, 3#8, 0x06#8, 0#8, 0#8, 42#8] storing)) = some [0x51#8, 3#8] := by decide +kernel

theorem test_profileRead : response .port0 (after (.profileRead .port0)
    (asking .port0 [0x50#8, 1#8, 0#8, 1#8, 0x10#8, 7#8] storing))
      = some [0x50#8, 0#8, 1#8, 0x10#8, 7#8, 0#8, 0#8, 0#8, 150#8] := by decide +kernel

/-- Step 2: rest 150 above high limit 120 is INCONSISTENT, naming channel 7. -/
theorem test_profileCommit_refused : response .port1 (after (.profileCommit .port1)
    (asking .port1 [0x52#8, 1#8, 3#8] storing)) = some [0x52#8, 32#8, 7#8] := by decide +kernel

/-- Step 3: the commit writes copy B at generation 42. -/
theorem test_profileCommit :
    let t := after (.profileCommit .port1) (asking .port1 [0x52#8, 1#8, 3#8]
      { storing with store := { storing.store with staging := defaultProfile } })
    t.store.commit = some ⟨.copyB, { defaultProfile with generation := 42#32 }⟩ := by decide +kernel

theorem test_profileDiscard :
    let t := after (.profileDiscard .port1) (asking .port1 [0x53#8, 1#8, 3#8] storing)
    response .port1 t = some [0x53#8, 0#8] ∧ t.store.staging = storing.store.active := by decide +kernel

/-- A commit of the defaults at generation 42 into copy B. -/
def committing : State :=
  { storing with store := { storing.store with
      commit := some ⟨.copyB, { defaultProfile with generation := 42#32 }⟩ } }

/-- R145: a target whose prescaler reads 0xFFFF is not valid; the outcome is FAILED and MAINTENANCE alone is told. -/
theorem test_commitCompletion_failed :
    let t := after (.commitCompletion [⟨0, 0xFF#8⟩, ⟨1, 0xFF#8⟩] .outputFirst) committing
    t.store.lastOutcome = .failed ∧ t.store.active = storing.store.active ∧ t.attention.get 3 = [.device .profile]
      ∧ t.attention.get 0 = [] := by decide +kernel

/-! ## Device reset and the start-up load -/

theorem test_deviceReset :
    let t := after (.deviceReset (.writing 0) []) committing
    t.resetHeld = true ∧ t.store.commit = none ∧ t.store.copyA = committing.store.copyA
      ∧ t.sessions = State.reset.sessions := by decide +kernel

/-- R142, R146: a reset after part 3, with bytes 0 and 1 said to read as the image: they are not written, and the
prescaler still reads 65535. -/
theorem test_deviceReset_unwritten :
    ((after (.deviceReset (.writing 540) [⟨0, 0x03#8⟩, ⟨1, 0xE8#8⟩]) committing).store.copyB).take 3
      = [0xFF#8, 0xFF#8, 0x1F#8] := by decide +kernel

/-- R135: with both copies erased, the built-in defaults are chosen. -/
theorem test_resetEnd :
    let t := after .resetEnd State.reset
    t.resetHeld = false ∧ t.store.loadChoice = some ⟨defaultProfile, none, true⟩ := by decide +kernel

theorem test_startUpLoadCompletion :
    let t := after .startUpLoadCompletion
      { State.reset with
        resetHeld := false, store := { State.reset.store with loadChoice := some ⟨defaultProfile, none, true⟩ } }
    t.ports.port0.state = .ready ∧ t.store.defaulted = true ∧ t.supervisor.holdoverRemaining = some 2000
      ∧ statusByte t .port0 = 0x41#8 := by decide +kernel

/-! ## Witnesses: for each statement with hypotheses, states and operands that meet them, clause by clause -/

section Witnesses

/-! ### The step, reset and the load -/

/-- The part in HOLDOVER with its carrier, its divider and its window at these positions. -/
def periodAt (carrier divider pos : Nat) : State :=
  { holding 5 with
    outputs := { occupied.outputs with carrier := carrier }
    supervisor := { (holding 5).supervisor with dividerCount := divider, windowPos := pos } }

/-- A request due, RESETn held low, and each count one short of its end and at its end. -/
theorem witness_StepOnEmptyQueue :
    (let s := asking .port1 [0x77#8, 0#8] running
     s.pending = [] ∧ s.dueEvent = some (.unknownRequest .port1))
    ∧ (State.reset.pending = [] ∧ State.reset.dueEvent = none ∧ State.reset.resetHeld = true)
    ∧ (∀ s ∈ [periodAt 1021 7998 510, periodAt 1022 7999 511], s.pending = [] ∧ s.dueEvent = none ∧ s.resetHeld = false
        ∧ s.supervisor.producing = true ∧ s.supervisor.source = .internalPeriods ∧ s.supervisor.holdoverDivider = 8000)
    ∧ (occupied.pending = [] ∧ occupied.dueEvent = none ∧ occupied.supervisor.source ≠ .internalPeriods) := by
  decide +kernel

theorem witness_DeviceResetReturnsEverything :
    (∀ cm ∈ committing.store.commit, cm.target ≠ .copyA) ∧ committing.store.commit.isSome = true := by decide +kernel

theorem defaults_sound : defaultProfile.sound = true := by decide +kernel

/-- A profile with each kind of field at an end of its range. -/
def extreme : Profile :=
  { prescaler := 4096, holdoverDivider := 65535, holdoverPeriod := 1, ceiling0 := 0, ceiling1 := 15
    generation := 4294967295#32, chans := .replicate ⟨1023, 1023, 1023, 1023, 1, 255, 7⟩ }

theorem witness_CopyHoldsItsProfile : extreme.sound = true := by decide +kernel

theorem witness_CutCommitLeavesTarget (n : Nat) (_ : n = 0 ∨ n = 540 ∨ n = 541 ∨ n = 542) :
    committing.store.commit = some ⟨.copyB, { defaultProfile with generation := 42#32 }⟩
      ∧ ({ defaultProfile with generation := 42#32 } : Profile).sound = true
      ∧ (committing.store.copy .copyB).length = 542 ∧ n ≤ 542 := by
  refine ⟨rfl, by decide +kernel, List.length_replicate, by omega⟩

/-- The defaults at a generation. -/
def atGeneration (g : BitVec 32) : Profile := { defaultProfile with generation := g }

/-- R133: what the bytes of such a copy read as, field by field. -/
theorem readback_at_generation (g : BitVec 32) : profileOf (copyImage (atGeneration g)) = atGeneration g := by
  have hg : ∀ k, k < 12 → byteAt (copyImage (atGeneration g)) k = ((atGeneration g).globalBytes.getD k 0#8).toNat :=
    copyImage_global _
  have hc : (profileOf (copyImage (atGeneration g))).chans = .replicate defaultChannelProfile := by
    apply Table.ext_get
    intro c
    have w : ∀ k, k < 11 → byteAt (copyImage (atGeneration g)) (12 + 11 * c.val + k)
        = (defaultChannelProfile.bytes.getD k 0#8).toNat := by
      intro k hk
      rw [copyImage_channel _ _ _ hk, show (atGeneration g).chans.get c = defaultChannelProfile from
        Table.get_replicate _ _]
    have w0 := w 0 (by omega)
    rw [Nat.add_zero] at w0
    simp only [Nat.add_assoc] at w
    simp only [profileOf, Table.get_ofFn, Table.get_replicate, channelProfileAt, wordAt, w0, Nat.add_assoc,
      Nat.reduceAdd]
    rw [w 1 (by omega), w 2 (by omega), w 3 (by omega), w 4 (by omega), w 5 (by omega), w 6 (by omega),
      w 7 (by omega), w 8 (by omega), w 9 (by omega), w 10 (by omega)]
    decide
  have hall : ∀ prof : Profile, prof.chans = .replicate defaultChannelProfile → prof.prescaler = 1000 →
      prof.holdoverDivider = 8000 → prof.holdoverPeriod = 2000 → prof.ceiling0 = 15 → prof.ceiling1 = 15 →
      prof.generation = g → prof = atGeneration g := by
    intro prof; cases prof; intros; simp_all [atGeneration, defaultProfile, Config.defaultPrescaler,
      Config.defaultHoldoverDivider, Config.defaultHoldoverPeriod, Config.defaultCeiling]
  refine hall _ hc ?_ ?_ ?_ ?_ ?_ (BitVec.eq_of_toNat_eq ?_) <;>
    simp only [profileOf, longAt, wordAt, hg, Nat.reduceAdd, Nat.reduceLT] <;>
    simp [Profile.globalBytes, be16, be8, be32, atGeneration, defaultProfile, Config.defaultPrescaler,
      Config.defaultHoldoverDivider, Config.defaultHoldoverPeriod, Config.defaultCeiling]
  have := g.isLt
  omega

theorem sound_at_generation (g : BitVec 32) : (atGeneration g).inRange = true ∧ (atGeneration g).consistent = true := by
  refine ⟨List.all_eq_true.mpr fun f _ => List.all_eq_true.mpr fun c _ => ?_, ?_⟩
  swap
  · show defaultProfile.consistent = true
    decide +kernel
  have := g.isLt
  cases f <;> simp [ProfileField.admits, ProfileField.range, Profile.field, atGeneration, defaultProfile,
    defaultChannelProfile, Config.defaultPrescaler, Config.defaultHoldoverDivider, Config.defaultHoldoverPeriod,
    Config.defaultCeiling, Config.maxValue, Config.defaultTolerance, Config.defaultMissLimit]
  omega

theorem valid_at_generation (g : BitVec 32) :
    copyValid (copyImage (atGeneration g)) = true ∧ (profileOf (copyImage (atGeneration g))).generation = g := by
  have r := readback_at_generation g
  exact ⟨copyValid_of_fields (by rw [r]; exact (sound_at_generation g).1)
    (by rw [r]; exact (sound_at_generation g).2), by rw [r]; rfl⟩

theorem erased_invalid : copyValid Config.firstCopy = false := by decide +kernel

/-- One copy valid, and both at each end of the comparison. -/
theorem witness_ResetEndChoosesProfile : State.reset.resetHeld = true
    ∧ (copyValid (copyImage (atGeneration 0#32)) = true ∧ copyValid Config.firstCopy = false)
    ∧ (∀ g, g = 1#32 ∨ g = 2147483647#32 → copyValid (copyImage (atGeneration g)) = true
        ∧ let above := ((profileOf (copyImage (atGeneration g))).generation.toNat + 4294967296
              - (profileOf (copyImage (atGeneration 0#32))).generation.toNat) % 4294967296
          1 ≤ above ∧ above ≤ 2147483647)
    ∧ (∀ g, g = 0#32 ∨ g = 2147483648#32 → copyValid (copyImage (atGeneration g)) = true
        ∧ let above := ((profileOf (copyImage (atGeneration g))).generation.toNat + 4294967296
              - (profileOf (copyImage (atGeneration 0#32))).generation.toNat) % 4294967296
          ¬ (1 ≤ above ∧ above ≤ 2147483647)) := by
  refine ⟨rfl, ⟨(valid_at_generation _).1, erased_invalid⟩, ?_, ?_⟩ <;> intro g hg <;>
    refine ⟨(valid_at_generation g).1, ?_⟩ <;> rw [(valid_at_generation g).2, (valid_at_generation 0#32).2] <;>
    rcases hg with rfl | rfl <;> decide

/-- The load in progress, a choice made, with the reference as given. -/
def loading (ref : Bool) : State :=
  { State.reset with
    resetHeld := false, store := { State.reset.store with loadChoice := some ⟨extreme, some .copyA, false⟩ }
    supervisor := { resetSupervisor with refPresent := ref, goodRun := if ref then 16 else 15 } }

theorem witness_LoadCompletionDelivers :
    (loading true).store.loadChoice = some ⟨extreme, some .copyA, false⟩ ∧ (loading true).supervisor.refPresent = true
      ∧ (loading false).supervisor.refPresent = false
      ∧ ∀ slot, (loading false).sessions.isOpen slot = false := by decide +kernel

/-! ### Frames -/

theorem witness_ChipSelectFallFormsStatus :
    (running.resetHeld = false ∧ (running.ports.get .port1).csLow = false)
      ∧ (let s := selected 0xC4#8 answering
         s.resetHeld = false ∧ (s.ports.get .port0).csLow = true
           ∧ (s.ports.get .port0).transaction = some ⟨.answering, 0xC4#8⟩)
      ∧ (let s := selected 0#8 State.reset
         s.resetHeld = true ∧ (s.ports.get .port0).csLow = true) := by decide +kernel

/-- Requests of 2 and of 60 bytes, over an empty port and behind an abandoned request. -/
theorem witness_SubmitAccepted (n : Nat) (_ : n = 2 ∨ n = 60) : let r : List Byte := List.replicate n 0#8
    let behind := running.modifyPort .port0 fun q => { q with inFlight := some ⟨[0#8, 0#8], true⟩ }
    ((selected 0x44#8 running).ports.get .port0).transaction = some ⟨.ready, 0x44#8⟩
      ∧ ((selected 0x44#8 behind).ports.get .port0).transaction = some ⟨.ready, 0x44#8⟩
      ∧ PortState.ready = .ready ∧ 2 ≤ r.length ∧ r.length ≤ 60 := by
  refine ⟨rfl, rfl, rfl, ?_, ?_⟩ <;> rw [List.length_replicate] <;> omega

/-- A frame dropped for the port's state, for its CRC, and for its kind. -/
theorem witness_DroppedFrameSetsDroppedOnly :
    ((selected 0xC4#8 answering).ports.get .port0).transaction = some ⟨.answering, 0xC4#8⟩
      ∧ PortState.answering ≠ .ready
      ∧ ((selected 0x44#8 running).ports.get .port0).transaction = some ⟨.ready, 0x44#8⟩
      ∧ (¬ ∃ r : List Byte, 2 ≤ r.length ∧ r.length ≤ 60 ∧ [3#8, 3#8, 1#8, 0#8, 0x93#8] =
          BitVec.ofNat 8 r.length :: r ++ [crc8 (BitVec.ofNat 8 r.length :: r)])
      ∧ 0x04#8 ∉ [0x01#8, 0x02#8, 0x03#8, 0x0F#8] := by
  refine ⟨rfl, by decide, rfl, ?_, by decide⟩
  rintro ⟨r, h1, h2, h3⟩
  have h4 := submitRequest_frame h1 h2
  rw [← h3] at h4
  exact absurd h4 (by
    have : submitRequest [submitKind, 3#8, 3#8, 1#8, 0#8, 0x93#8] = none := by decide +kernel
    rw [this]; simp)

theorem witness_CollectShiftsOutResponse :
    ((selected 0xC4#8 answering).ports.get .port0).transaction = some ⟨.answering, 0xC4#8⟩
      ∧ ((selected 0xC4#8 answering).ports.get .port0).buffer = some [3#8, 0#8, 0#8, 0x64#8, 0#8, 0#8] := by
  decide +kernel

/-- A COLLECT that began in WORKING, its response produced meanwhile. -/
theorem witness_EmptyCollectChangesNothing :
    let s := (selected 0x84#8 (asking .port0 [3#8, 1#8, 0#8] peopled)).modifyPort .port0 fun q =>
      { q with state := .answering, inFlight := none, buffer := some [3#8, 4#8] }
    (s.ports.get .port0).transaction = some ⟨.working, 0x84#8⟩ ∧ PortState.working ≠ .answering := by decide +kernel

theorem witness_PeekChangesNothing :
    ((selected 0x44#8 running).ports.get .port0).transaction = some ⟨.ready, 0x44#8⟩ := by decide +kernel

/-- A selected port in each state of the table, in WORKING with the request in flight abandoned too; and a port whose
state changed since the fall. -/
theorem witness_ClearActsByState :
    let ready : Port := { resetPort with state := .ready, inFlight := some ⟨[3#8, 0#8, 0#8], true⟩ }
    let working : Port := { resetPort with state := .working, inFlight := some ⟨[3#8, 0#8, 0#8], false⟩ }
    let behind : Port := { ready with state := .working, waiting := some [3#8, 1#8, 0#8] }
    let answering : Port := { resetPort with state := .answering, buffer := some [3#8, 4#8] }
    ∀ x ∈ [(PortState.starting, resetPort), (.starting, { resetPort with state := .ready }), (.ready, ready),
        (.working, working), (.working, behind), (.working, answering), (.answering, answering)],
      let q : Port := { x.2 with transaction := some ⟨x.1, 0#8⟩ }
      let s := { running with ports := ⟨q, q⟩ }
      (s.ports.get .port0).transaction = some ⟨x.1, 0#8⟩ ∧ x.1.mayFollow (s.ports.get .port0).state = true
        ∧ (s.ports.get .port0).combined = true := by decide +kernel

/-- A response for a request, and for an abandoned one with none and with one waiting. -/
theorem witness_ResponseProducedTaken : ∀ q ∈ [
      { resetPort with state := .working, inFlight := some ⟨[3#8, 0#8, 0#8], false⟩, produced := some [3#8, 4#8] },
      { resetPort with state := .ready, inFlight := some ⟨[3#8, 0#8, 0#8], true⟩, produced := some [3#8, 4#8] },
      { resetPort with
        state := .working, inFlight := some ⟨[3#8, 0#8, 0#8], true⟩, produced := some [3#8, 4#8]
        waiting := some [3#8, 1#8, 0#8] }],
    let s := { running with ports := ⟨q, q⟩ }
    (s.ports.get .port1).inFlight.isSome = true ∧ (s.ports.get .port1).produced = some [3#8, 4#8] := by decide +kernel

/-! ### The decoder and the session-handle check: spec/10_request_set_and_result_codes.md -/

/-- OPEN with tag 0x0C01, CONTROL, at the least interval. -/
def openRequest : List Byte := [1#8, 0#8, 0#8, 0#8, 0x0C#8, 0x01#8, 0#8, 10#8]

/-- CLAIM by session 2/1 at priority 15, the ceiling, on C4 and the limits of C47. -/
def claimTop (disposition : Byte) : List Byte :=
  [0x10#8, 1#8, 2#8, 15#8, disposition, 0#8, 1#8, 0#8, 0#8, 0#8, 2#8, 4#8, 0#8, 0#8, 47#8, 0x03#8, 0xFF#8]

/-- An unknown code; submissions 1 and 2 of the worked sequence; and requests at the ends of their forms. -/
theorem witness_FormRefusalReachesNoSession :
    ((asking .port0 [0x99#8, 1#8] peopled).requestAt .port0 = some [0x99#8, 1#8]
        ∧ RequestCode.ofByte 0x99#8 = none)
      ∧ (let r := claimStep1.take 19
         (asking .port0 r peopled).requestOf .port0 RequestCode.claim.byte = some r
           ∧ ¬ RequestCode.lengthHolds .claim r)
      ∧ (let r := claimStep1.set 14 48#8
         (asking .port0 r peopled).requestOf .port0 RequestCode.claim.byte = some r
           ∧ RequestCode.lengthHolds .claim r ∧ ¬ RequestCode.formHolds .claim r)
      ∧ (RequestCode.lengthHolds .openSession openRequest ∧ RequestCode.formHolds .openSession openRequest)
      ∧ (∀ d ∈ [0#8, 1#8], RequestCode.lengthHolds .claim (claimTop d) ∧ RequestCode.formHolds .claim (claimTop d))
      ∧ (∀ r ∈ [[0x13#8, 1#8, 0#8, 1#8, 0#8, 3#8], [0x13#8, 1#8, 0#8, 1#8, 0#8, 3#8, 0#8, 1#8]],
          RequestCode.lengthHolds .renew r ∧ RequestCode.formHolds .renew r)
      ∧ (let r := [0x13#8, 1#8, 0#8, 1#8, 0#8, 3#8, 0#8, 0#8]
         RequestCode.lengthHolds .renew r ∧ ¬ RequestCode.formHolds .renew r) := by
  simp only [RequestCode.lengthHolds, RequestCode.formHolds, pairsHold]
  refine ⟨?_, ?_, ?_, ?_, ?_, ?_, ?_⟩ <;> decide +kernel

/-- Requests that their decoders accept, each with the field widest at the end of its range. -/
theorem witness_FormRefusalReachesNoSession_decoded :
    decodeOpen openRequest = .ok ⟨.control, 0x0C01#16, 10⟩
      ∧ decodeClaim (claimTop 1#8) = .ok ⟨15, .standby, 1, none, [⟨4, 0⟩, ⟨47, 1023⟩]⟩
      ∧ decodeSet [0x11#8, 1#8, 0#8, 1#8, 0#8, 1#8, 47#8, 0x03#8, 0xFF#8] = .ok ⟨⟨1#8, 0#8⟩, [⟨47, 1023⟩]⟩
      ∧ decodeSetIf [0x12#8, 1#8, 0#8, 1#8, 0#8, 47#8, 0x03#8, 0xFF#8, 0#8, 0#8] = .ok ⟨⟨1#8, 0#8⟩, 47, 1023, 0⟩
      ∧ decodeRenew [0x13#8, 1#8, 0#8, 1#8, 0#8, 3#8, 0xFF#8, 0xFF#8] = .ok ⟨⟨1#8, 0#8⟩, 3#8, some 65535⟩
      ∧ decodeHandle [0x14#8, 1#8, 0#8, 1#8, 63#8] = .ok ⟨1#8, 63#8⟩
      ∧ decodeTransfer [0x15#8, 1#8, 0#8, 1#8, 0#8, 3#8, 1#8, 2#8] = .ok ⟨⟨1#8, 0#8⟩, 3#8, ⟨1#8, 2#8⟩⟩
      ∧ decodeChannel [0x31#8, 1#8, 0#8, 47#8] = .ok 47
      ∧ decodeProfileRead [0x50#8, 1#8, 0#8, 1#8, 0x16#8, 47#8] = .ok ⟨.staging, 0x16, 47⟩
      ∧ decodeProfileStage [0x51#8, 1#8, 3#8, 0x16#8, 47#8, 0#8, 7#8] = .ok ⟨0x16, 47, 7⟩ := by decide +kernel

/-- A slot past 7, a CLOSED slot, a LAPSED slot, the other port's session, and a CONTROL session's reserved requests. -/
theorem witness_HandleAndRoleChecked :
    (let r := [3#8, 1#8, 8#8]
     (asking .port0 r peopled).requestOf .port0 0x03#8 = some r ∧ RequestCode.keepalive ≠ .openSession
       ∧ RequestCode.formRefusal .keepalive r = none ∧ peopled.sessions.named (handleAt r 1) = none)
      ∧ (let r := [3#8, 0#8, 7#8]
         peopled.sessions.named (handleAt r 1) = some 7 ∧ (peopled.sessions.recs.get 7).state = .closed
           ∧ RequestCode.formRefusal .keepalive r = none)
      ∧ (let r := [3#8, 1#8, 4#8]
         peopled.sessions.named (handleAt r 1) = some 4 ∧ (peopled.sessions.recs.get 4).state = .lapsed
           ∧ RequestCode.formRefusal .keepalive r = none)
      ∧ (let r := [3#8, 1#8, 2#8]
         peopled.sessions.named (handleAt r 1) = some 2 ∧ (peopled.sessions.recs.get 2).state = .opened protection
           ∧ protection.port ≠ .port0 ∧ RequestCode.formRefusal .keepalive r = none)
      ∧ ∀ k ∈ [RequestCode.profileCommit, .profileDiscard], let r := [k.byte, 1#8, 0#8]
        (asking .port0 r peopled).asks .port0 k r 0 primary ∧ primary.role = .control ∧ k ≠ .openSession
          ∧ RequestCode.formRefusal k r = none ∧ k ∈ [.revoke, .profileStage, .profileCommit, .profileDiscard] := by
  decide +kernel

/-! ### Sessions -/

/-- Every slot OPEN or LAPSED. -/
def full (lapsed : List Slot) : State :=
  { running with sessions :=
      { recs := .ofFn fun slot => if slot ∈ lapsed then ⟨1#8, .lapsed⟩ else
          ⟨1#8, .opened ⟨.port0, .control, BitVec.ofNat 16 slot.val, 10, 10⟩⟩
        lapseList := lapsed } }

/-- Slot 5 is the lowest CLOSED; and slot 6 lapsed before slot 2. -/
theorem witness_OpenTakesSlot :
    ((asking .port0 openRequest peopled).requestOf .port0 0x01#8 = some openRequest
        ∧ decodeOpen openRequest = .ok ⟨.control, 0x0C01#16, 10⟩
        ∧ (∀ j, ∀ i ∈ peopled.sessions.info? j, ¬ (i.port = .port0 ∧ i.tag = 0x0C01#16))
        ∧ (peopled.sessions.recs.get 5).state = .closed
        ∧ (∀ j, j < (5 : Slot) → (peopled.sessions.recs.get j).state ≠ .closed))
      ∧ ((∀ j, ∀ i ∈ (full [6, 2]).sessions.info? j, ¬ (i.port = .port0 ∧ i.tag = 0x0C01#16))
        ∧ (∀ j, ((full [6, 2]).sessions.recs.get j).state ≠ .closed)
        ∧ (full [6, 2]).sessions.lapseList.head? = some 6) := by decide +kernel

/-- A tag in use at slot 0; a MAINTENANCE session already OPEN; every slot OPEN. -/
theorem witness_OpenRefused :
    (let r := openRequest.set 4 0x0A#8
     (asking .port0 r peopled).requestOf .port0 0x01#8 = some r ∧ decodeOpen r = .ok ⟨.control, 0x0A01#16, 10⟩
       ∧ peopled.sessions.info? 0 = some primary ∧ primary.port = .port0 ∧ primary.tag = 0x0A01#16
       ∧ (∀ k, k < (0 : Slot) → ∀ i' ∈ peopled.sessions.info? k, ¬ (i'.port = .port0 ∧ i'.tag = 0x0A01#16)))
      ∧ (let r := openRequest.set 3 1#8
         decodeOpen r = .ok ⟨.maintenance, 0x0C01#16, 10⟩
           ∧ (∀ j, ∀ i ∈ peopled.sessions.info? j, ¬ (i.port = .port0 ∧ i.tag = 0x0C01#16))
           ∧ ∃ j, ∃ i ∈ peopled.sessions.info? j, i.role = .maintenance)
      ∧ ((∀ j, ∀ i ∈ (full []).sessions.info? j, ¬ (i.port = .port0 ∧ i.tag = 0x0C01#16))
         ∧ (∀ j, ((full []).sessions.recs.get j).state ≠ .closed) ∧ (full []).sessions.lapseList = []) := by
  decide +kernel

theorem witness_CloseEndsSession (r : List Byte) (hr : r = [2#8, 1#8, 0#8]) :
    (asking .port0 r occupied).asks .port0 .closeSession r 0 primary ∧ r.length = 3
      ∧ StacksInv (asking .port0 r occupied) ∧ OwnersInv (asking .port0 r occupied) := by
  subst hr
  exact ⟨by decide +kernel, rfl, occupied_stacks, occupied_owners⟩

/-! ### Claims -/

theorem witness_ClaimGranted (d : Byte × Disposition) (hd : d ∈ [(0#8, .immediate), (1#8, .standby)]) :
    let s := asking .port1 (claimTop d.1) occupied
    let q : ClaimParams := ⟨15, d.2, 1, none, [⟨4, 0⟩, ⟨47, 1023⟩]⟩
    s.asks .port1 .claim (claimTop d.1) 2 protection ∧ decodeClaim (claimTop d.1) = .ok q ∧ StacksInv s
      ∧ (s.supervisor.state = .locked ∨ s.supervisor.state = .holdover) ∧ s.outputs.quiesced = false
      ∧ s.store.commit = none ∧ q.priority ≤ s.store.active.ceiling .port1
      ∧ s.claims.ownedCount (s.sessions.idOf 2) < 16 ∧ s.claims.isFree 3 = true
      ∧ (∀ j, j < (3 : RecIdx) → s.claims.isFree j = false)
      ∧ ∀ pr ∈ q.pairs, (s.outputs.chans.get pr.chan).condition = .normal ∧ s.store.active.withinLimits pr = true
        ∧ (∀ j ∈ s.claims.holders.get pr.chan, s.claims.priority j ≠ q.priority)
        ∧ (s.claims.holders.get pr.chan).length < 4
        ∧ (q.disposition = .immediate → ∀ j ∈ s.claims.top pr.chan, s.claims.priority j ≤ q.priority) := by
  refine ⟨?_, ?_, occupied_stacks, ?_⟩
  · revert d; decide +kernel
  · revert d; decide +kernel
  · revert d; decide +kernel

/-- For each check on the device and the session, a state in which it is the first to fail. -/
theorem witness_ClaimRefusedInOrder_device :
    let r := claimTop 0#8
    let first : State → Option Result := fun s =>
      ([(s.supervisor.state == .starting || s.supervisor.state == .lapsed, Result.timebase),
        (s.outputs.quiesced, .quiesced), (s.store.commit.isSome, .committing),
        (decide (s.store.active.ceiling .port1 < 15), .priorityCeiling),
        (decide (16 ≤ s.claims.ownedCount (s.sessions.idOf 2)), .sessionFull),
        (decide (∀ i, s.claims.isFree i = false), .poolEmpty)].find? fun x => x.1).map fun x => x.2
    let pool : Slot → State := fun slot =>
      { occupied with claims := { stacked with recs := .replicate (live slot 3 [⟨0, 0⟩] 1 1 0#8 none) } }
    (∀ s ∈ [occupied, pool 2], (asking .port1 r s).asks .port1 .claim r 2 protection)
      ∧ decodeClaim r = .ok ⟨15, .immediate, 1, none, [⟨4, 0⟩, ⟨47, 1023⟩]⟩
      ∧ first { occupied with supervisor := { occupied.supervisor with state := .lapsed } } = some .timebase
      ∧ first { occupied with outputs := { occupied.outputs with quiesced := true } } = some .quiesced
      ∧ first { occupied with store := committing.store } = some .committing
      ∧ first { occupied with
          store := { occupied.store with active := { defaultProfile with ceiling1 := 14 } } } = some .priorityCeiling
      ∧ first (pool 2) = some .sessionFull ∧ first (pool 0) = some .poolEmpty := by decide +kernel

/-- For each check on a pair, a second pair on which it is the first to fail, the first pair passing. -/
theorem witness_ClaimRefusedInOrder_pair :
    let first : State → Nat → Disposition → Pair → Option Result := fun s priority d pr =>
      ([((s.outputs.chans.get pr.chan).condition == .faulted, Result.channelFaulted),
        (!s.store.active.withinLimits pr, .outOfLimits),
        ((s.claims.holders.get pr.chan).any (fun j => s.claims.priority j == priority), .priorityTaken),
        (decide (4 ≤ (s.claims.holders.get pr.chan).length), .stackFull),
        (d == .immediate && (s.claims.top pr.chan).any (fun j => decide (priority < s.claims.priority j)),
          .notTop)].find? fun x => x.1).map fun x => x.2
    let narrow : Profile := { defaultProfile with chans := defaultProfile.chans.modify 4 fun k => { k with high := 599 } }
    let deep : State := { occupied with claims := { stacked with holders := stacked.holders.set 4 [0, 1, 3, 5] } }
    first occupied 5 .immediate ⟨47, 0⟩ = none
      ∧ first faulted 5 .immediate ⟨4, 600⟩ = some .channelFaulted
      ∧ first { occupied with store := { occupied.store with active := narrow } } 5 .immediate ⟨4, 600⟩ = some .outOfLimits
      ∧ first occupied 8 .standby ⟨4, 600⟩ = some .priorityTaken
      ∧ first deep 5 .standby ⟨4, 600⟩ = some .stackFull
      ∧ first occupied 5 .immediate ⟨4, 600⟩ = some .notTop
      ∧ first occupied 5 .standby ⟨4, 600⟩ = none := by decide +kernel

/-- The step-4 SET; and one whose second pair names a channel that is no member. -/
theorem witness_SetStoresValues :
    (let r := [0x11#8, 1#8, 0#8, 1#8, 0#8, 2#8, 4#8, 0x02#8, 0x8A#8, 5#8, 0x03#8, 0xFF#8]
     (asking .port0 r occupied).asks .port0 .set r 0 primary
       ∧ decodeSet r = .ok ⟨⟨1#8, 0#8⟩, [⟨4, 650⟩, ⟨5, 1023⟩]⟩ ∧ stacked.resolve ⟨1#8, 0#8⟩ = some 0
       ∧ stacked.live? 0 = some body0 ∧ body0.owner = occupied.sessions.idOf 0
       ∧ ∀ pr ∈ [(⟨4, 650⟩ : Pair), ⟨5, 1023⟩], pr.chan ∈ body0.chans ∧ occupied.store.active.withinLimits pr = true)
      ∧ (let r := [0x11#8, 1#8, 0#8, 1#8, 0#8, 2#8, 4#8, 0x02#8, 0x8A#8, 6#8, 0#8, 0#8]
         decodeSet r = .ok ⟨⟨1#8, 0#8⟩, [⟨4, 650⟩, ⟨6, 0⟩]⟩ ∧ (6 : Chan) ∉ body0.chans) := by decide +kernel

/-- C9 holds 300: expected, and not; a channel the claim does not list; and a value above the limits. -/
theorem witness_SetIfComparesAndStores (e : Byte × Nat) (_ : e ∈ [(0x2C#8, 300), (0x2D#8, 301)]) :
    let r := [0x12#8, 1#8, 0#8, 1#8, 0#8, 9#8, 0x01#8, e.1, 0x03#8, 0xFF#8]
    (asking .port0 r occupied).asks .port0 .setIf r 0 primary ∧ decodeSetIf r = .ok ⟨⟨1#8, 0#8⟩, 9, e.2, 1023⟩
      ∧ stacked.resolve ⟨1#8, 0#8⟩ = some 0 ∧ stacked.live? 0 = some body0
      ∧ body0.owner = occupied.sessions.idOf 0 ∧ occupied.store.active.withinLimits ⟨9, 1023⟩ = true
      ∧ body0.valueOn 9 = some 300
      ∧ (decodeSetIf (r.set 5 6#8) = .ok ⟨⟨1#8, 0#8⟩, 6, e.2, 1023⟩ ∧ (6 : Chan) ∉ body0.chans)
      ∧ ((9 : Chan) ∈ body0.chans ∧ ({ defaultProfile with
          chans := defaultProfile.chans.modify 9 fun k => { k with high := 1022 } } : Profile).withinLimits ⟨9, 1023⟩
            = false) := by
  revert e; decide +kernel

/-- With a new length, without one, and with an epoch that is not the record's. -/
theorem witness_RenewReloadsLease :
    (let r := [0x13#8, 1#8, 0#8, 1#8, 0#8, 3#8, 0xFF#8, 0xFF#8]
     (asking .port0 r occupied).asks .port0 .renew r 0 primary
       ∧ decodeRenew r = .ok ⟨⟨1#8, 0#8⟩, 3#8, some 65535⟩ ∧ stacked.resolve ⟨1#8, 0#8⟩ = some 0
       ∧ stacked.live? 0 = some body0 ∧ body0.owner = occupied.sessions.idOf 0 ∧ body0.epoch = 3#8)
      ∧ (let r := [0x13#8, 1#8, 0#8, 1#8, 0#8, 2#8]
         (asking .port0 r occupied).asks .port0 .renew r 0 primary ∧ decodeRenew r = .ok ⟨⟨1#8, 0#8⟩, 2#8, none⟩
           ∧ 2#8 ≠ body0.epoch) := by decide +kernel

/-- A LIVE record, and the RETIRED one in the last place. -/
theorem witness_ReleaseFreesRecord (x : Byte × RecIdx × ClaimBody) (hx : x ∈ [(0#8, 0, body0), (63#8, 63, body63)]) :
    let r := [0x14#8, 1#8, 0#8, 1#8, x.1]
    let s := asking .port0 r occupied
    s.asks .port0 .release r 0 primary ∧ decodeHandle r = .ok ⟨1#8, x.1⟩ ∧ StacksInv s ∧ LeasesInv s
      ∧ s.claims.resolve ⟨1#8, x.1⟩ = some x.2.1 ∧ s.claims.body? x.2.1 = some x.2.2
      ∧ x.2.2.owner = s.sessions.idOf 0 := by
  refine ⟨?_, ?_, occupied_stacks, occupied_leases, ?_⟩ <;> revert x <;> decide +kernel

/-- An old epoch; the own session; a CLOSED target; a full target; a target under its ceiling; and one that takes it. -/
theorem witness_TransferHandsOver (r : List Byte) (hr : r = [0x15#8, 1#8, 0#8, 1#8, 0#8, 3#8, 1#8, 2#8]) :
    ListsInv (asking .port0 r occupied) ∧ ((asking .port0 r occupied).asks .port0 .transfer r 0 primary
       ∧ decodeTransfer r = .ok ⟨⟨1#8, 0#8⟩, 3#8, ⟨1#8, 2#8⟩⟩ ∧ stacked.resolve ⟨1#8, 0#8⟩ = some 0
       ∧ stacked.live? 0 = some body0 ∧ body0.owner = occupied.sessions.idOf 0 ∧ 3#8 = body0.epoch
       ∧ occupied.sessions.named ⟨1#8, 2#8⟩ = some 2 ∧ (2 : Slot) ≠ 0 ∧ occupied.sessions.info? 2 = some protection
       ∧ stacked.ownedCount (occupied.sessions.idOf 2) < 16
       ∧ body0.priority ≤ occupied.store.active.ceiling .port1)
      ∧ 2#8 ≠ body0.epoch ∧ occupied.sessions.named ⟨1#8, 0#8⟩ = some 0
      ∧ (∀ k, occupied.sessions.named ⟨0#8, 7#8⟩ = some k → occupied.sessions.isOpen k = false)
      ∧ (let t : ClaimTable := { stacked with recs := .ofFn fun i =>
            if i.val = 0 then ⟨1#8, .live body0⟩ else live 2 3 [⟨0, 0⟩] 1 1 0#8 none }
         t.live? 0 = some body0 ∧ 16 ≤ t.ownedCount (occupied.sessions.idOf 2))
      ∧ ({ defaultProfile with ceiling1 := 7 } : Profile).ceiling protection.port < body0.priority := by
  subst hr
  exact ⟨occupied_lists, by decide +kernel⟩

theorem witness_RevokeRetiresRecord (r : List Byte) (hr : r = [0x16#8, 1#8, 3#8, 1#8, 0#8]) :
    let s := asking .port1 r occupied
    s.asks .port1 .revoke r 3 keeper ∧ keeper.role = .maintenance ∧ decodeHandle r = .ok ⟨1#8, 0#8⟩ ∧ StacksInv s
      ∧ LeasesInv s ∧ s.claims.resolve ⟨1#8, 0#8⟩ = some 0 ∧ s.claims.live? 0 = some body0 := by
  subst hr
  exact ⟨by decide +kernel, rfl, rfl, occupied_stacks, occupied_leases, by decide +kernel, by decide +kernel⟩

/-- An index past 63, a FREE record, a RETIRED record, another session's LIVE record, and its RETIRED one. -/
theorem witness_ClaimHandleChecked :
    (let r := [0x30#8, 1#8, 0#8, 1#8, 64#8]
     (asking .port0 r occupied).asks .port0 .queryClaim r 0 primary ∧ RequestCode.formRefusal .queryClaim r = none
       ∧ stacked.resolve (handleAt r 3) = none)
      ∧ stacked.resolve ⟨0#8, 3#8⟩ = none
      ∧ (let r := [0x16#8, 1#8, 3#8, 1#8, 63#8]
         (asking .port1 r occupied).asks .port1 .revoke r 3 keeper ∧ RequestCode.formRefusal .revoke r = none
           ∧ keeper.role = .maintenance ∧ stacked.resolve (handleAt r 3) = some 63
           ∧ (stacked.recs.get 63).state = .retired body63 .expired)
      ∧ (let r := [0x14#8, 1#8, 1#8, 1#8, 0#8]
         (asking .port0 r occupied).asks .port0 .release r 1 standby ∧ RequestCode.formRefusal .release r = none
           ∧ stacked.resolve (handleAt r 3) = some 0 ∧ stacked.live? 0 = some body0
           ∧ body0.owner ≠ occupied.sessions.idOf 1)
      ∧ (let r := [0x14#8, 1#8, 1#8, 1#8, 63#8]
         stacked.resolve (handleAt r 3) = some 63 ∧ stacked.body? 63 = some body63
           ∧ body63.owner ≠ occupied.sessions.idOf 1) := by decide +kernel

/-! ### Attention, queries -/

/-- An empty list, and at a head each kind of entry: a LIVE and a RETIRED record's, and the three device entries. -/
theorem witness_FetchTakesHead :
    (let r := [0x20#8, 1#8, 1#8]
     (asking .port0 r occupied).asks .port0 .fetch r 1 standby ∧ r.length = 3 ∧ occupied.attention.get 1 = [])
      ∧ (let r := [0x20#8, 1#8, 0#8]
         (asking .port0 r occupied).asks .port0 .fetch r 0 primary ∧ r.length = 3
           ∧ (occupied.attention.get 0).head? = some (.claim ⟨0, 1#8⟩ 0x01#8)
           ∧ (stacked.recs.get 0).state = .live body0 ∧ (stacked.recs.get 63).state = .retired body63 .expired)
      ∧ ∀ e ∈ [Entry.claim ⟨63, 1#8⟩ 0x04#8, .device .timebase, .device .quiesce, .device .profile],
        (((occupied.attention.set 0 [e]).get 0).head? = some e) := by decide +kernel

theorem witness_QueriesReportAndChangeNothing :
    (∀ k ∈ [RequestCode.keepalive, .queryDevice], let r := [k.byte, 1#8, 0#8]
      (asking .port0 r occupied).asks .port0 k r 0 primary ∧ r.length = 3)
      ∧ (let s := after (.queryDevice .port0 [.claimTable, .profileStore]) (asking .port0 [0x32#8, 1#8, 0#8] occupied)
         (s.ports.get .port0).reading = some ⟨none, none, some 60, none, some ⟨0#32, false, false, .none⟩⟩)
      ∧ (let r := [0x30#8, 1#8, 0#8, 1#8, 63#8]
         (asking .port0 r occupied).asks .port0 .queryClaim r 0 primary ∧ decodeHandle r = .ok ⟨1#8, 63#8⟩
           ∧ stacked.resolve ⟨1#8, 63#8⟩ = some 63 ∧ stacked.body? 63 = some body63)
      ∧ (let r := [0x31#8, 1#8, 0#8, 47#8]
         (asking .port0 r occupied).asks .port0 .queryChannel r 0 primary ∧ decodeChannel r = .ok 47)
      ∧ (let r := [0x50#8, 1#8, 0#8, 1#8, 0x16#8, 47#8]
         (asking .port0 r occupied).asks .port0 .profileRead r 0 primary
           ∧ decodeProfileRead r = .ok ⟨.staging, 0x16, 47⟩ ∧ ProfileField.missLimit.id = 0x16)
      ∧ (decodeProfileRead [0x50#8, 1#8, 0#8, 0#8, 0x17#8, 0#8] = .ok ⟨.active, 0x17, 0⟩
          ∧ ∀ f ∈ ProfileField.all, 0x17 ≠ f.id) := by decide +kernel

/-! ### Faults, RESUME, the profile requests -/

/-- The owner of the top claim, on a FAULTED and on a NORMAL channel; and one who may not clear. -/
theorem witness_ClearFaultRestoresChannel :
    (let r := [0x40#8, 1#8, 0#8, 4#8]
     (asking .port0 r faulted).asks .port0 .clearFault r 0 primary ∧ decodeChannel r = .ok 4
       ∧ faulted.claims.top 4 = some 0 ∧ faulted.claims.body? 0 = some body0
       ∧ body0.owner = faulted.sessions.idOf 0 ∧ (faulted.outputs.chans.get 4).condition = .faulted
       ∧ (occupied.outputs.chans.get 4).condition = .normal)
      ∧ (let r := [0x40#8, 1#8, 1#8, 4#8]
         (asking .port0 r faulted).asks .port0 .clearFault r 1 standby ∧ standby.role = .control
           ∧ body0.owner ≠ faulted.sessions.idOf 1)
      ∧ keeper.role = .maintenance := by decide +kernel

theorem witness_ResumeReturnsToLocked :
    let r := [0x41#8, 1#8, 3#8]
    let back : State := { holding 1 with supervisor := { (holding 1).supervisor with refPresent := true } }
    (asking .port1 r back).asks .port1 .resume r 3 keeper ∧ r.length = 3
      ∧ (back.supervisor.state = .holdover ∧ back.supervisor.refPresent = true)
      ∧ (occupied.supervisor.state = .locked ∧ occupied.supervisor.refPresent = true)
      ∧ ((holding 1).supervisor.state ≠ .locked ∧ (holding 1).supervisor.refPresent = false) := by decide +kernel

/-- An id past the table, the generation, a value past the range, and the end of the range. -/
theorem witness_ProfileStageSetsField :
    (let r := [0x51#8, 1#8, 3#8, 0x16#8, 47#8, 0#8, 7#8]
     (asking .port1 r storing).asks .port1 .profileStage r 3 keeper ∧ keeper.role = .maintenance
       ∧ decodeProfileStage r = .ok ⟨0x16, 47, 7⟩ ∧ 0x16 = ProfileField.missLimit.id
       ∧ ProfileField.missLimit ≠ .generation
       ∧ ProfileField.missLimit.range.1 ≤ 7 ∧ 7 ≤ ProfileField.missLimit.range.2)
      ∧ ¬ (ProfileField.missLimit.range.1 ≤ 8 ∧ 8 ≤ ProfileField.missLimit.range.2)
      ∧ (∀ f ∈ ProfileField.all, 0x07 ≠ f.id) ∧ 0x06 = ProfileField.generation.id := by decide +kernel

/-- A commit in flight; a record not FREE; a channel out of order; and none of these. -/
theorem witness_ProfileCommitStartsCommit :
    let r := [0x52#8, 1#8, 3#8]
    let inOrder : Profile → Chan → Prop := fun prof c =>
      (prof.chans.get c).low ≤ (prof.chans.get c).rest ∧ (prof.chans.get c).rest ≤ (prof.chans.get c).high
    (asking .port1 r storing).asks .port1 .profileCommit r 3 keeper ∧ keeper.role = .maintenance ∧ r.length = 3
      ∧ committing.store.commit ≠ none ∧ (occupied.store.commit = none ∧ (stacked.recs.get 0).state ≠ .free)
      ∧ (storing.store.commit = none ∧ (∀ i, (storing.claims.recs.get i).state = .free) ∧ ¬ inOrder staged 7
          ∧ ∀ d, d < (7 : Chan) → inOrder staged d)
      ∧ ∀ c, inOrder defaultProfile c := by decide +kernel

theorem witness_ProfileDiscardResetsStaging :
    (let r := [0x53#8, 1#8, 0#8]
     (asking .port0 r storing).asks .port0 .profileDiscard r 0 primary ∧ primary.role = .control ∧ r.length = 3)
      ∧ (let r := [0x53#8, 1#8, 3#8]
         (asking .port1 r storing).asks .port1 .profileDiscard r 3 keeper ∧ keeper.role = .maintenance ∧ r.length = 3
           ∧ storing.store.commit = none ∧ committing.store.commit ≠ none) := by decide +kernel

/-- A commit that verifies, and one whose prescaler is not taken. -/
theorem witness_CommitCompletionVerifies :
    (State.store { running with store := { running.store with
        commit := some ⟨.copyA, atGeneration 1#32⟩ } }).commit = some ⟨.copyA, atGeneration 1#32⟩
      ∧ (copyValid (applyFlaws [] (copyImage (atGeneration 1#32))) = true
          ∧ (applyFlaws [] (copyImage (atGeneration 1#32))).take 540 = (atGeneration 1#32).content)
      ∧ copyValid (applyFlaws [⟨0, 0xFF#8⟩, ⟨1, 0xFF#8⟩] (copyImage (atGeneration 1#32))) = false :=
  ⟨rfl, ⟨(valid_at_generation 1#32).1, copyImage_take _⟩, by decide +kernel⟩

/-! ### The timebase -/

/-- The fifteenth good window behind it, in each state; a window with no edge; and the load still in progress. -/
theorem witness_WindowEndJudgesReference :
    let withRun : SupervisorState → Nat → Nat → Bool → State := fun st run edges ref =>
      { occupied with supervisor := { occupied.supervisor with
          state := st, goodRun := run, edgeCount := edges, refPresent := ref } }
    (∀ st ∈ [SupervisorState.starting, .holdover, .lapsed], let s := withRun st 15 4 false
      s.resetHeld = false ∧ s.supervisor.counted ∧ s.supervisor.producing = true ∧ s.supervisor.edgeCount = 4
        ∧ s.supervisor.goodRun = 15)
      ∧ (let s := withRun .locked 16 3 true
         s.resetHeld = false ∧ s.supervisor.counted ∧ s.supervisor.edgeCount ≠ 4 ∧ s.supervisor.state = .locked)
      ∧ (let s := withRun .locked 16 4 true
         s.supervisor.counted ∧ s.supervisor.edgeCount = 4)
      ∧ (loading false).supervisor.producing = false ∧ (loading false).supervisor.counted := by decide +kernel

/-- Ticks from internal periods, an edge short of the prescaler, and the edge that reaches it. -/
theorem witness_RefclkEdgeCounts :
    (holding 1).resetHeld = false ∧ (holding 1).supervisor.source ≠ .refclkEdges
      ∧ (occupied.supervisor.producing = true ∧ occupied.supervisor.source = .refclkEdges
          ∧ 998 + 1 < occupied.supervisor.prescaler ∧ occupied.supervisor.prescaler ≤ 999 + 1) := by decide +kernel

theorem witness_TickTakenByEachBlock :
    let owed : TicksOwed := ⟨1, 1, 1, 1, 1⟩
    (occupied.transit.ticks = ⟨0, 0, 0, 0, 0⟩ ∧ occupied.supervisor.producing = true)
      ∧ (owed ≠ ⟨0, 0, 0, 0, 0⟩ ∧ (⟨0, 0, 1, 0, 0⟩ : TicksOwed) ≠ ⟨0, 0, 0, 0, 0⟩
          ∧ (after (.tick [.outputStage]) { occupied with
              transit := { occupied.transit with ticks := ⟨0, 0, 1, 0, 0⟩ } }).transit.ticks = ⟨0, 0, 0, 0, 0⟩)
      ∧ (0 < owed.claimTable ∧ 0 < owed.sessionTable ∧ 0 < owed.outputStage ∧ 0 < owed.readbackMonitor
          ∧ 0 < owed.supervisor)
      ∧ (let t : ClaimTable := { stacked with recs := stacked.recs.set 2 ⟨1#8, .live { body2 with remaining := 2 }⟩ }
         ∀ i, ∀ b ∈ t.live? i, 1 < b.remaining)
      ∧ (∀ slot, ∀ i ∈ occupied.sessions.info? slot, 1 < i.remaining)
      ∧ ((ramping.outputs.chans.get 7).outputState = .enabled ∧ (ramping.outputs.chans.get 7).rampState = .ramping)
      ∧ (occupied.monitor.state = .waiting ∧ converting.monitor.state ≠ .waiting)
      ∧ ((holding 2).supervisor.holdoverRemaining ≠ some 0 ∧ (holding 2).supervisor.holdoverRemaining ≠ some 1
          ∧ occupied.supervisor.holdoverRemaining = none) := by decide +kernel

theorem witness_LeaseExpiryRetiresRecords (s : State)
    (hs : s = { occupied with transit := { occupied.transit with ticks := ⟨1, 0, 0, 0, 0⟩ } }) :
    0 < s.transit.ticks.claimTable ∧ StacksInv s ∧ s.claims.live? 2 = some body2 ∧ body2.remaining ≤ 1 := by
  subst hs
  exact ⟨by decide, occupied_stacks, by decide +kernel, by decide⟩

theorem witness_SessionLapseEndsSessions :
    let s := { occupied with
      sessions := { occupied.sessions with
        recs := occupied.sessions.recs.set 2 ⟨1#8, .opened { protection with remaining := 1 }⟩ }
      transit := { occupied.transit with ticks := ⟨0, 1, 0, 0, 0⟩ } }
    0 < s.transit.ticks.sessionTable ∧ StacksInv s ∧ OwnersInv s := by
  refine ⟨by decide, occupied_stacks, by decide +kernel⟩

theorem witness_LapsedEntrySweepsClaims (s : State)
    (hs : s = { holding 1 with transit := { (holding 1).transit with ticks := ⟨0, 0, 0, 0, 1⟩ } }) :
    0 < s.transit.ticks.supervisor ∧ (s.supervisor.state = .starting ∨ s.supervisor.state = .holdover)
      ∧ s.supervisor.holdoverRemaining = some 1 ∧ StacksInv s := by
  subst hs
  exact ⟨by decide, by decide, by decide, occupied_stacks⟩

/-! ### Readback and outputs -/

/-- Inputs outside the range and at its ends, at the tolerance on both sides, one past it, the miss before the limit,
and a disturbed conversion. -/
theorem witness_ConversionCompletionJudgesReading :
    let cv : Conversion := ⟨21, 500, false⟩
    converting.monitor.state = .converting cv ∧ (converting.monitor.chans.get 21).tolerance = 16
      ∧ ¬ (cv.disturbed = true ∨ (converting.outputs.chans.get 21).outputState = .disabled
          ∨ (converting.outputs.chans.get 21).condition = .faulted ∨ converting.outputs.quiesced = true)
      ∧ (∀ x ∈ [((-1 : Int), 0), (0, 0), (483, 483), (484, 484), (516, 516), (517, 517), (1023, 1023), (1024, 1023)],
          (x.1 < 0 ∧ x.2 = 0 ∨ (0 ≤ x.1 ∧ x.1 ≤ 1023 ∧ (x.2 : Int) = x.1) ∨ 1023 < x.1 ∧ x.2 = 1023)
            ∧ (x.2 ≤ cv.outputAtStart + 16 ∧ cv.outputAtStart ≤ x.2 + 16 ↔ x.2 = 484 ∨ x.2 = 516))
      ∧ (converting.monitor.chans.get 21).missCount + 1 = (converting.monitor.chans.get 21).missLimit
      ∧ (converting.monitor.chans.get 20).missCount + 1 ≠ (converting.monitor.chans.get 20).missLimit
      ∧ (⟨21, 500, true⟩ : Conversion).disturbed = true := by decide +kernel

theorem witness_ChannelFaultStepsToRest :
    let s := { faulted with transit := { faulted.transit with faultReports := [4, 7] } }
    (4 ∈ s.transit.faultReports ∧ (s.outputs.chans.get 4).outputState = .enabled
        ∧ (s.outputs.chans.get 4).condition = .faulted)
      ∧ (7 ∈ s.transit.faultReports ∧ (s.outputs.chans.get 7).outputState = .enabled
        ∧ (s.outputs.chans.get 7).condition = .normal) := by decide +kernel

theorem witness_FaultNoticeTellsStack :
    let s := { occupied with transit := { occupied.transit with faultNotices := [4] } }
    4 ∈ s.transit.faultNotices ∧ 1 ∈ s.claims.holders.get 4 ∧ s.claims.ownerSlot 1 = some 1 := by decide +kernel

/-- Each kind of report, at a NORMAL and at a FAULTED channel. -/
theorem witness_ReportsSetTopValueAndTarget : ∀ report ∈ [Report.newTop ⟨0, 1#8⟩ 1023, .emptyStack, .newValue 0],
    ∀ c ∈ [(4 : Chan), 47],
      let s := { faulted with transit := faulted.transit.send c report }
      s.transit.reports.get c = [report] ∧ (s.outputs.chans.get c).outputState = .enabled := by decide +kernel

/-- The load in progress, and after it the pin high and low. -/
theorem witness_QuiesceFollowsPin :
    (State.reset.store.loadInProgress = true ∧ (loading true).store.loadInProgress = true)
      ∧ converting.store.loadInProgress = false ∧ converting.quiescenLow = false
      ∧ converting.monitor.state = .converting ⟨21, 500, false⟩
      ∧ State.quiescenLow { ramping with quiescenLow := true } = true
      ∧ (ramping.outputs.chans.get 7).outputState = .enabled
      ∧ (State.reset.outputs.chans.get 7).outputState = .disabled := by decide +kernel

/-! ### The rules of the whole machine: each holds of a populated state from which a step goes on -/

/-- A port in each combination and its step. -/
theorem witness_PortCombinationsKept : PortsInv (selected 0xC4#8 answering)
    ∧ PortsInv (asking .port0 [3#8, 1#8, 0#8] peopled)
    ∧ step (asking .port0 [3#8, 1#8, 0#8] peopled)
        = .next (after (.keepalive .port0) (asking .port0 [3#8, 1#8, 0#8] peopled)) :=
  ⟨by decide +kernel, by decide +kernel, rfl⟩

theorem witness_SessionRulesKept : OwnersInv occupied ∧ ListsInv occupied
    ∧ step occupied = .next occupied.internalPeriod :=
  ⟨occupied_owners, occupied_lists, rfl⟩

theorem witness_HolderStacksKept : StacksInv occupied ∧ step occupied = .next occupied.internalPeriod :=
  ⟨occupied_stacks, rfl⟩

theorem witness_LeaseRangesKept : LeasesInv occupied ∧ step occupied = .next occupied.internalPeriod :=
  ⟨occupied_leases, rfl⟩

theorem witness_HeldChannelsStayAtRest : OutputsInv ramping ∧ OutputsInv faulted
    ∧ step ramping = .next ramping.internalPeriod :=
  ⟨by decide +kernel, by decide +kernel, rfl⟩

theorem witness_NoLiveClaimWithoutTimebase : TimebaseInv occupied ∧ TimebaseInv (loading false)
    ∧ step occupied = .next occupied.internalPeriod :=
  ⟨by decide +kernel, by decide +kernel, rfl⟩

theorem witness_SupervisorCountsKept : CountsInv occupied ∧ CountsInv (holding 1) ∧ CountsInv (holding 2000)
    ∧ step occupied = .next occupied.internalPeriod :=
  ⟨by decide +kernel, by decide +kernel, by decide +kernel, rfl⟩

theorem witness_ProfilesStayInRange : ProfilesInv committing ∧ step committing = .next committing.internalPeriod
    ∧ MissesInv converting ∧ step converting = .next converting.internalPeriod :=
  ⟨by decide +kernel, rfl, by decide +kernel, rfl⟩

/-- C4 at its top value, C5 FAULTED under its own. -/
def driven : State :=
  withChannel 5 (fun ch => { ch with condition := .faulted, topValue := some 0 })
    (withChannel 4 (fun ch => { ch with topValue := some 600, target := 600, output := 600 }) occupied)

theorem witness_SettingsFollowActiveProfile : DeliveredInv occupied ∧ TargetsInv driven
    ∧ step driven = .next driven.internalPeriod :=
  ⟨by decide +kernel, by decide +kernel, rfl⟩

end Witnesses

end Sys2Proof.Tests
end

section
/-! PROOFS. The rule of R88 and R94, `OutputsInv`: a channel is SETTLED exactly when its output stands at its target, and
both stand at the rest value while it is quiesced or FAULTED. First what each change of one record does to it, then the
events of the output stage, then every command, then the step. -/

-- The whole text compiles close to the check's memory limit, so this part starts no threads of its own.
set_option Elab.async false

namespace Sys2Proof.Machine

/-! ## One channel record -/

/-- A DISABLED record is outside the rule (R82). -/
theorem Channel.sound_of_disabled {ch : Channel} (hd : ch.outputState = .disabled) (quiesced : Bool) :
    ch.sound quiesced := fun he => by simp [hd] at he

/-- Clearing the quiesced flag leaves less to hold. -/
theorem Channel.sound_unquiesced {ch : Channel} {quiesced : Bool} (h : ch.sound quiesced) : ch.sound false := by
  intro he
  obtain ⟨hsettled, hheld⟩ := h he
  refine ⟨hsettled, fun hf => hheld ?_⟩
  rcases hf with hq | hf
  · cases hq
  · exact .inr hf

/-- R92, R94, R95: a record stepped to rest meets the rule, whatever it was before. -/
theorem Channel.stepToRest_sound (ch : Channel) (quiesced : Bool) : ch.stepToRest.sound quiesced := fun _ =>
  ⟨iff_of_true rfl rfl, fun _ => ⟨rfl, rfl⟩⟩

@[simp] theorem Channel.moveTo_outputState (ch : Channel) (v : Nat) :
    (ch.moveTo v).outputState = ch.outputState := by
  unfold Channel.moveTo; split
  · rfl
  · split <;> rfl

@[simp] theorem Channel.moveTo_condition (ch : Channel) (v : Nat) : (ch.moveTo v).condition = ch.condition := by
  unfold Channel.moveTo; split
  · rfl
  · split <;> rfl

/-- R88: a move leaves the record SETTLED exactly when its output already stands at the new target. -/
theorem Channel.moveTo_settled_iff (ch : Channel) (v : Nat) :
    (ch.moveTo v).rampState = .settled ↔ (ch.moveTo v).output = (ch.moveTo v).target := by
  rw [Channel.moveTo_target]
  unfold Channel.moveTo
  split
  · exact iff_of_true rfl rfl
  · split
    next h => exact iff_of_true rfl h.symm
    next h => exact iff_of_false (by simp) (Ne.symm h)

/-- R88: only a held record is bound to rest, so one that is not held may move to any target. -/
theorem Channel.moveTo_sound {ch : Channel} {quiesced : Bool} (v : Nat)
    (hfree : ¬ (quiesced = true ∨ ch.condition = .faulted)) : (ch.moveTo v).sound quiesced := fun _ =>
  ⟨ch.moveTo_settled_iff v, fun hheld => absurd (by simpa using hheld) hfree⟩

/-- R87: at a held record the recomputation gives the rest value, where the target stands already, and changes
nothing; any other record moves. -/
theorem Channel.retarget_sound {ch : Channel} {quiesced : Bool} (h : ch.sound quiesced) :
    (ch.retarget quiesced).sound quiesced := by
  unfold Channel.retarget
  split
  next => exact h
  next hmoved =>
    intro he
    refine Channel.moveTo_sound _ (fun hheld => hmoved ?_) he
    obtain ⟨-, hrest⟩ := h (by simpa using he)
    obtain ⟨htarget, -⟩ := hrest hheld
    rw [Channel.wanted, if_pos hheld, htarget]

/-- R86: the top value plays no part in the rule. -/
theorem Channel.takeReport_sound {ch : Channel} {quiesced : Bool} (r : Report) (h : ch.sound quiesced) :
    (ch.takeReport r quiesced).sound quiesced :=
  Channel.retarget_sound (ch := { ch with topValue := r.topValue }) h

/-- R95. -/
theorem Channel.takeFault_sound {ch : Channel} {quiesced : Bool} (h : ch.sound quiesced) :
    ch.takeFault.sound quiesced := by
  unfold Channel.takeFault
  split
  · exact Channel.stepToRest_sound _ quiesced
  · exact h

/-- R97: a NORMAL record is held by the quiesced flag alone. -/
theorem Channel.clearFault_sound {ch : Channel} {quiesced : Bool} (h : ch.sound quiesced) :
    (ch.clearFault quiesced).sound quiesced := by
  refine Channel.retarget_sound (ch := { ch with condition := .normal }) fun he => ?_
  obtain ⟨hsettled, hheld⟩ := h he
  refine ⟨hsettled, fun hq => hheld (.inl ?_)⟩
  simpa using hq

/-- R89: a held record is SETTLED at its rest value, so a tick moves none of them. -/
theorem Channel.rampTick_sound {ch : Channel} {quiesced : Bool} (h : ch.sound quiesced) :
    ch.rampTick.sound quiesced := by
  unfold Channel.rampTick
  split
  next => exact h
  next hramping =>
    intro he
    obtain ⟨hsettled, hheld⟩ := h he
    refine ⟨?_, fun hh => ?_⟩
    · by_cases hr : ch.steppedOutput = ch.target <;> simp [hr]
    · obtain ⟨htarget, houtput⟩ := hheld hh
      have : ch.rampState = .settled := hsettled.mpr (houtput.trans htarget.symm)
      simp [hramping] at this

/-- R98. -/
theorem Channel.activate_sound (ch : Channel) (k : ChannelProfile) (quiesced : Bool) :
    (ch.activate k quiesced).sound quiesced := by
  unfold Channel.activate
  split
  next => exact Channel.stepToRest_sound _ quiesced
  next hfree => exact Channel.moveTo_sound _ hfree

/-- R82. -/
theorem Channel.enabledAt_sound (ch : Channel) (k : ChannelProfile) (quiesced : Bool) :
    (ch.enabledAt k).sound quiesced := fun _ => ⟨iff_of_true rfl rfl, fun _ => ⟨rfl, rfl⟩⟩

/-- R82: a change made of ENABLED records alone has only those to answer for. -/
theorem Channel.whenEnabled_sound {ch : Channel} {f : Channel → Channel} {quiesced : Bool}
    (h : ch.outputState = .enabled → (f ch).sound quiesced) : (ch.whenEnabled f).sound quiesced := by
  unfold Channel.whenEnabled
  split
  next he => exact h he
  next hd => exact Channel.sound_of_disabled hd quiesced

/-! ## The output stage -/

/-- The rule reads the output stage alone. -/
theorem OutputsInv.of_outputs_eq {s t : State} (h : OutputsInv s) (ho : t.outputs = s.outputs) : OutputsInv t := by
  intro c
  rw [ho]
  exact h c

@[simp] theorem State.changeChannels_quiesced (s : State) (f : Chan → Channel → Channel) :
    (s.changeChannels f).outputs.quiesced = s.outputs.quiesced := rfl

/-- A change of every record keeps the rule where it leaves each record sound. -/
theorem OutputsInv.changeChannels {s : State} {f : Chan → Channel → Channel}
    (h : ∀ c, (f c (s.outputs.chans.get c)).sound s.outputs.quiesced) : OutputsInv (s.changeChannels f) := by
  intro c
  rw [State.changeChannels_get, State.changeChannels_quiesced]
  exact h c

/-- A change of one record keeps the rule where it keeps that record sound. -/
theorem OutputsInv.changeChannel {s : State} {c : Chan} {f : Channel → Channel} (h : OutputsInv s)
    (hf : (f (s.outputs.chans.get c)).sound s.outputs.quiesced) : OutputsInv (s.changeChannel c f) := by
  refine OutputsInv.changeChannels fun d => ?_
  split
  next hd => exact hd ▸ hf
  next => exact h d

/-- R86. -/
theorem State.takeReport_outputsInv {s : State} (c : Chan) (r : Report) (h : OutputsInv s) :
    OutputsInv (s.takeReport c r) :=
  OutputsInv.changeChannel h (Channel.whenEnabled_sound fun _ => Channel.takeReport_sound r (h c))

/-- R95. -/
theorem State.takeFaultReport_outputsInv {s : State} (c : Chan) (h : OutputsInv s) :
    OutputsInv (s.takeFaultReport c) :=
  OutputsInv.changeChannel h (Channel.whenEnabled_sound fun _ => Channel.takeFault_sound (h c))

/-- R97. -/
theorem State.clearFault_outputsInv {s : State} (c : Chan) (h : OutputsInv s) : OutputsInv (s.clearFault c) := by
  have hcleared : OutputsInv ({ s with monitor := s.monitor.clearMisses c }.changeChannel c
      (Channel.clearFault · s.outputs.quiesced)) := OutputsInv.changeChannel h (Channel.clearFault_sound (h c))
  exact hcleared.of_outputs_eq (by simp [State.clearFault])

/-- R92: every ENABLED record is stepped to rest before the flag holds it there. -/
theorem State.quiesce_outputsInv (s : State) : OutputsInv s.quiesce :=
  OutputsInv.changeChannels (s := { s with outputs := { s.outputs with quiesced := true } })
    fun _ => Channel.whenEnabled_sound fun _ => Channel.stepToRest_sound _ true

/-- R93: with the flag clear, the recomputation moves no FAULTED record. -/
theorem State.unquiesce_outputsInv {s : State} (h : OutputsInv s) : OutputsInv s.unquiesce :=
  OutputsInv.changeChannels (s := { s with outputs := { s.outputs with quiesced := false } })
    fun c => Channel.whenEnabled_sound fun _ => Channel.retarget_sound (Channel.sound_unquiesced (h c))

/-- R89. -/
theorem State.rampChannels_outputsInv {s : State} (h : OutputsInv s) : OutputsInv s.rampChannels :=
  OutputsInv.changeChannels fun c => Channel.whenEnabled_sound fun _ => Channel.rampTick_sound (h c)

/-- R98: an activation leaves every record sound, whatever it was before. -/
theorem State.activateOutputs_outputsInv (s : State) (prof : Profile) : OutputsInv (s.activateOutputs prof) :=
  OutputsInv.changeChannels fun c => Channel.whenEnabled_sound fun _ => Channel.activate_sound _ (prof.chans.get c) _

/-- R144: in either order of the two blocks. -/
theorem State.deliver_outputsInv (s : State) (prof : Profile) (order : ActivationOrder) :
    OutputsInv (s.deliver prof order) := by
  cases order with
  | outputFirst => exact (s.activateOutputs_outputsInv prof).of_outputs_eq (by simp [State.deliver])
  | monitorFirst =>
    exact ((s.activateMonitor prof).activateOutputs_outputsInv prof).of_outputs_eq (by simp [State.deliver])

/-- R143, R145: a commit that fails leaves the outputs as they were. -/
theorem State.completeCommit_outputsInv {s : State} (cm : Commit) (written : List Byte) (order : ActivationOrder)
    (h : OutputsInv s) : OutputsInv (s.completeCommit cm written order) := by
  unfold State.completeCommit
  split
  · exact (State.deliver_outputsInv _ cm.image order).of_outputs_eq (State.deviceNotice_outputs _ _)
  · exact h.of_outputs_eq (State.maintenanceNotice_outputs _ _)

/-- R82. -/
theorem State.enableOutputs_outputsInv (s : State) (prof : Profile) : OutputsInv (s.enableOutputs prof) := by
  intro c
  rw [State.enableOutputs, Table.get_mapIdx]
  exact Channel.enabledAt_sound _ _ _

/-- R136. -/
theorem State.completeLoad_outputsInv (s : State) (choice : LoadChoice) : OutputsInv (s.completeLoad choice) :=
  (State.enableOutputs_outputsInv { s with store := s.store.loaded choice } choice.profile).of_outputs_eq
    (by simp [State.completeLoad])

/-- R85: the value held for the carrier period plays no part in the rule. -/
theorem State.carrierPeriod_outputsInv {s : State} (h : OutputsInv s) : OutputsInv s.carrierPeriod := by
  intro c
  unfold State.carrierPeriod
  split
  · exact h c
  · simpa using h c

theorem State.internalPeriod_outputsInv {s : State} (h : OutputsInv s) : OutputsInv s.internalPeriod := by
  unfold State.internalPeriod
  split
  · exact h
  · exact (State.carrierPeriod_outputsInv h).of_outputs_eq (by simp)

/-- R81: device reset leaves every record DISABLED. -/
theorem State.atReset_outputsInv (copyA copyB : List Byte) (pending : List Instr)
    (quiescenLow cs0Low cs1Low : Bool) :
    OutputsInv (State.atReset copyA copyB pending quiescenLow cs0Low cs1Low) := fun c =>
  Channel.sound_of_disabled (by simp [State.atReset, resetOutputs, resetChannel]) _

/-! ## Ticks -/

/-- R118: of the five blocks the output stage alone moves outputs at its tick. -/
theorem State.takeTick_outputs (s : State) {b : TickTaker} (hb : b ≠ .outputStage) :
    (s.takeTick b).outputs = s.outputs := by
  unfold State.takeTick
  split
  · rfl
  · cases b with
    | outputStage => exact absurd rfl hb
    | claimTable => simp [State.blockTick]
    | sessionTable => simp [State.blockTick]
    | readbackMonitor => simp [State.blockTick]
    | supervisor => simp [State.blockTick]

theorem State.takeTick_outputsInv {s : State} (b : TickTaker) (h : OutputsInv s) : OutputsInv (s.takeTick b) := by
  by_cases hb : b = .outputStage
  · subst hb
    unfold State.takeTick
    split
    · exact h
    · exact State.rampChannels_outputsInv h
  · exact h.of_outputs_eq (s.takeTick_outputs hb)

theorem State.takeTicks_outputsInv (bs : List TickTaker) {s : State} (h : OutputsInv s) :
    OutputsInv (bs.foldl State.takeTick s) := by
  induction bs generalizing s with
  | nil => exact h
  | cons b bs ih => exact ih (State.takeTick_outputsInv b h)

/-! ## Requests -/

/-- A request whose owner keeps the rule keeps it: the decoder and the port leave the outputs alone. -/
theorem State.serve_outputsInv {α : Type} {s : State} (p : PortId) (code : RequestCode)
    (decode : List Byte → Except Result α) (maintenanceOnly : Bool) {owner : State → Requester → α → State × Reply}
    (kept : ∀ u who q, OutputsInv u → OutputsInv (owner u who q).1) (h : OutputsInv s) :
    OutputsInv (s.serve p code decode maintenanceOnly owner) := by
  rcases s.serve_spec p code decode maintenanceOnly owner with hs | ⟨t, why, hs⟩ | ⟨t, who, q, hs⟩
  · rw [hs]; exact h
  · rw [hs]; exact h
  · rw [hs]; exact (kept { s with sessions := t } who q h).of_outputs_eq (State.answer_outputs _ _ _ _)

/-- R96, R97. -/
theorem ownClearFault_outputsInv (s : State) (who : Requester) (c : Chan) (h : OutputsInv s) :
    OutputsInv (ownClearFault s who c).1 := by
  unfold ownClearFault
  split
  · exact h
  · split
    · exact h
    · exact State.clearFault_outputsInv c h

/-! ## Commands that leave the outputs as they were -/

theorem execResetEnd_outputs {s t : State} (hx : execResetEnd s = .next t) : t.outputs = s.outputs := by
  unfold execResetEnd at hx
  split at hx <;> cases hx <;> rfl

theorem execResponseProduced_outputs {s t : State} {p : PortId} (hx : execResponseProduced p s = .next t) :
    t.outputs = s.outputs := by
  unfold execResponseProduced at hx
  split at hx <;> cases hx <;> rfl

theorem execUnknownRequest_outputs {s t : State} {p : PortId} (hx : execUnknownRequest p s = .next t) :
    t.outputs = s.outputs := by
  unfold execUnknownRequest at hx
  split at hx
  · cases hx; rfl
  · split at hx <;> cases hx <;> rfl

theorem execQueryDevice_outputs {s t : State} {p : PortId} {reads : List DeviceBlock}
    (hx : execQueryDevice p s reads = .next t) : t.outputs = s.outputs := by
  unfold execQueryDevice at hx
  split at hx
  · cases hx; exact s.readDevice_outputs p _ reads
  · rcases s.commonChecks_spec p .queryDevice decodeNone false with hc | ⟨u, why, hc⟩ | ⟨u, who, q, hc⟩ <;>
      rw [hc] at hx <;> cases hx
    · rfl
    · rfl
    · exact State.readDevice_outputs _ p .unread reads

theorem execWindowEnd_outputs {s t : State} (hx : execWindowEnd s = .next t) : t.outputs = s.outputs := by
  unfold execWindowEnd at hx
  split at hx <;> cases hx
  · rfl
  · exact s.windowEnd_outputs

theorem execLeaseExpiry_outputs {s t : State} (hx : execLeaseExpiry s = .next t) : t.outputs = s.outputs := by
  obtain rfl := Host.Outcome.next.inj hx
  rw [State.expire_outputs, s.takeTick_outputs (by decide)]

theorem execSessionLapse_outputs {s t : State} (hx : execSessionLapse s = .next t) : t.outputs = s.outputs := by
  obtain rfl := Host.Outcome.next.inj hx
  rw [State.lapseSessions_outputs, s.takeTick_outputs (by decide)]

theorem execLapsedEntry_outputs {s t : State} (hx : execLapsedEntry s = .next t) : t.outputs = s.outputs := by
  obtain rfl := Host.Outcome.next.inj hx
  rw [State.lapseIfOut_outputs, s.takeTick_outputs (by decide)]

theorem execConversionCompletion_outputs {s t : State} {input : Int}
    (hx : execConversionCompletion input s = .next t) : t.outputs = s.outputs := by
  unfold execConversionCompletion at hx
  split at hx <;> cases hx
  · rw [State.search_outputs, State.evaluate_outputs]
  · rfl
  · rfl

theorem execRefclkEdge_outputs {s t : State} (hx : execRefclkEdge s = .next t) : t.outputs = s.outputs := by
  unfold execRefclkEdge at hx
  split at hx <;> cases hx
  · rfl
  · rw [State.countDivider_outputs]

/-- A request whose owner leaves the outputs alone leaves them so. -/
theorem served_outputs {α : Type} {s t : State} {p : PortId} {code : RequestCode}
    {decode : List Byte → Except Result α} {maintenanceOnly : Bool} {owner : State → Requester → α → State × Reply}
    (kept : ∀ u who q, (owner u who q).1.outputs = u.outputs)
    (hx : (.next (s.serve p code decode maintenanceOnly owner) : Host.Outcome State Fault Refusal) = .next t) :
    t.outputs = s.outputs := by
  cases hx
  exact s.serve_outputs p code decode maintenanceOnly owner kept

theorem transacted_outputs {s t : State} {p : PortId} {kind : List Byte} {x : Transaction}
    (hx : (.next (s.transact p kind x) : Host.Outcome State Fault Refusal) = .next t) : t.outputs = s.outputs := by
  cases hx
  exact s.transact_outputs p kind x

/-! ## Commands that can change a channel record -/

theorem execStartUpLoadCompletion_outputsInv {s t : State} (h : OutputsInv s)
    (hx : execStartUpLoadCompletion s = .next t) : OutputsInv t := by
  unfold execStartUpLoadCompletion at hx
  split at hx <;> cases hx
  · exact s.completeLoad_outputsInv _
  · exact h

theorem execCommitCompletion_outputsInv {s t : State} {flaws : List Flaw} {order : ActivationOrder} (h : OutputsInv s)
    (hx : execCommitCompletion flaws order s = .next t) : OutputsInv t := by
  unfold execCommitCompletion at hx
  split at hx <;> cases hx
  · exact State.completeCommit_outputsInv _ _ order h
  · exact h

theorem execTick_outputsInv {s t : State} {takers : List TickTaker} (h : OutputsInv s)
    (hx : execTick takers s = .next t) : OutputsInv t := by
  unfold execTick at hx
  split at hx
  · cases hx; exact State.takeTicks_outputsInv takers h
  · split at hx <;> cases hx
    · exact State.takeTicks_outputsInv takers (h.of_outputs_eq s.produceTick_outputs)
    · exact h

theorem execChannelFault_outputsInv {s t : State} {c : Chan} (h : OutputsInv s)
    (hx : execChannelFault c s = .next t) : OutputsInv t := by
  unfold execChannelFault at hx
  split at hx <;> cases hx
  · exact State.takeFaultReport_outputsInv c h
  · exact h

theorem execTopReport_outputsInv {s t : State} {c : Chan} (h : OutputsInv s) (hx : execTopReport c s = .next t) :
    OutputsInv t := by
  unfold execTopReport at hx
  split at hx <;> cases hx
  · exact State.takeReport_outputsInv c _ h
  · exact State.takeReport_outputsInv c _ h
  · exact h
  · exact h

theorem execValueReport_outputsInv {s t : State} {c : Chan} (h : OutputsInv s)
    (hx : execValueReport c s = .next t) : OutputsInv t := by
  unfold execValueReport at hx
  split at hx <;> cases hx
  · exact State.takeReport_outputsInv c _ h
  · exact h
  · exact h
  · exact h

theorem execQuiescenFall_outputsInv {s t : State} (h : OutputsInv s) (hx : execQuiescenFall s = .next t) :
    OutputsInv t := by
  unfold execQuiescenFall at hx
  split at hx
  · cases hx; exact h
  · split at hx <;> cases hx
    · exact h
    · exact State.quiesce_outputsInv _

theorem execQuiescenRise_outputsInv {s t : State} (h : OutputsInv s) (hx : execQuiescenRise s = .next t) :
    OutputsInv t := by
  unfold execQuiescenRise at hx
  split at hx
  · cases hx; exact h
  · split at hx <;> cases hx
    · exact h
    · exact State.unquiesce_outputsInv (s := { s with quiescenLow := false }) h

/-! ## Every command -/

/-- R88, R94: each command either leaves the output stage alone or changes its records by an event that keeps the
rule. -/
theorem exec_outputsInv {s t : State} (i : Instr) (h : OutputsInv s) (hx : exec i s = .next t) : OutputsInv t := by
  cases i with
  | deviceReset reached flaws => cases hx; exact State.atReset_outputsInv _ _ _ _ _ _
  | startUpLoadCompletion => exact execStartUpLoadCompletion_outputsInv h hx
  | commitCompletion flaws order => exact execCommitCompletion_outputsInv h hx
  | tick takers => exact execTick_outputsInv h hx
  | channelFault c => exact execChannelFault_outputsInv h hx
  | clearFault p => cases hx; exact State.serve_outputsInv p _ _ _ ownClearFault_outputsInv h
  | topReport c => exact execTopReport_outputsInv h hx
  | valueReport c => exact execValueReport_outputsInv h hx
  | quiescenFall => exact execQuiescenFall_outputsInv h hx
  | quiescenRise => exact execQuiescenRise_outputsInv h hx
  | resetEnd => exact h.of_outputs_eq (execResetEnd_outputs hx)
  | submit p x => exact h.of_outputs_eq (transacted_outputs hx)
  | collect p x => exact h.of_outputs_eq (transacted_outputs hx)
  | peek p x => exact h.of_outputs_eq (transacted_outputs hx)
  | clear p x => exact h.of_outputs_eq (transacted_outputs hx)
  | unknownFrame p x => exact h.of_outputs_eq (transacted_outputs hx)
  | responseProduced p => exact h.of_outputs_eq (execResponseProduced_outputs hx)
  | unknownRequest p => exact h.of_outputs_eq (execUnknownRequest_outputs hx)
  | openSession p => cases hx; exact h.of_outputs_eq (s.serveOpen_outputs p)
  | closeSession p => exact h.of_outputs_eq (served_outputs ownClose_outputs hx)
  | keepalive p => exact h.of_outputs_eq (served_outputs ownKeepalive_outputs hx)
  | claim p => exact h.of_outputs_eq (served_outputs ownClaim_outputs hx)
  | set p => exact h.of_outputs_eq (served_outputs ownSet_outputs hx)
  | setIf p => exact h.of_outputs_eq (served_outputs ownSetIf_outputs hx)
  | renew p => exact h.of_outputs_eq (served_outputs ownRenew_outputs hx)
  | release p => exact h.of_outputs_eq (served_outputs ownRelease_outputs hx)
  | transfer p => exact h.of_outputs_eq (served_outputs ownTransfer_outputs hx)
  | revoke p => exact h.of_outputs_eq (served_outputs ownRevoke_outputs hx)
  | fetch p => exact h.of_outputs_eq (served_outputs ownFetch_outputs hx)
  | queryClaim p => exact h.of_outputs_eq (served_outputs ownQueryClaim_outputs hx)
  | queryChannel p => exact h.of_outputs_eq (served_outputs ownQueryChannel_outputs hx)
  | resume p => exact h.of_outputs_eq (served_outputs ownResume_outputs hx)
  | profileRead p => exact h.of_outputs_eq (served_outputs ownProfileRead_outputs hx)
  | profileStage p => exact h.of_outputs_eq (served_outputs ownProfileStage_outputs hx)
  | profileCommit p => exact h.of_outputs_eq (served_outputs ownProfileCommit_outputs hx)
  | profileDiscard p => exact h.of_outputs_eq (served_outputs ownProfileDiscard_outputs hx)
  | queryDevice p reads => exact h.of_outputs_eq (execQueryDevice_outputs hx)
  | windowEnd => exact h.of_outputs_eq (execWindowEnd_outputs hx)
  | leaseExpiry => exact h.of_outputs_eq (execLeaseExpiry_outputs hx)
  | sessionLapse => exact h.of_outputs_eq (execSessionLapse_outputs hx)
  | lapsedEntry => exact h.of_outputs_eq (execLapsedEntry_outputs hx)
  | conversionCompletion input => exact h.of_outputs_eq (execConversionCompletion_outputs hx)
  | faultNotice c => cases hx; exact h.of_outputs_eq (s.takeFaultNotice_outputs c)
  | refclkEdge => exact h.of_outputs_eq (execRefclkEdge_outputs hx)

/-! ## The step -/

/-- Settles O56: a step is a command, or on an empty queue an event owed or an oscillator period, and each keeps the rule
of R88 and R94. -/
theorem heldChannelsStayAtRest : Obligations.HeldChannelsStayAtRest := by
  unfold Obligations.HeldChannelsStayAtRest
  intro s t h hstep
  unfold step at hstep
  split at hstep
  next c rest hpending => exact exec_outputsInv (s := { s with pending := rest }) c h hstep
  next hempty =>
    split at hstep
    next c hdue => exact exec_outputsInv c h hstep
    next hnone =>
      cases hstep
      exact State.internalPeriod_outputsInv h

end Sys2Proof.Machine
end

section
/-! PROOFS. PROFILE_DISCARD (R140): what the profile store answers with and without a commit in flight, and what the
decoder makes of the request before it gets there. -/

-- The whole text compiles close to the check's memory limit, so this part starts no threads of its own.
set_option Elab.async false

namespace Sys2Proof.Machine

/-! ## The request -/

/-- R164, R165: three bytes are all that a request without parameters needs. -/
theorem decodeNone_of_length {r : List Byte} (hl : r.length = 3) : decodeNone r = .ok () := by
  simp [decodeNone, ofLength, hl]

/-- The command hands the request to the decoder, as one reserved to the MAINTENANCE session (R167). -/
theorem exec_profileDiscard (p : PortId) (s : State) :
    exec (.profileDiscard p) s = .next (s.serve p .profileDiscard decodeNone true ownProfileDiscard) := rfl

/-! ## The profile store -/

/-- R140: a commit in flight keeps the staging profile as it is. -/
theorem ownProfileDiscard_of_committing {s : State} (h : s.store.commit ≠ none) (who : Requester) (q : Unit) :
    ownProfileDiscard s who q = (s, refuse .committing) :=
  if_pos (Option.isSome_iff_ne_none.mpr h)

/-- R140: with no commit in flight the staging profile is discarded. -/
theorem ownProfileDiscard_of_no_commit {s : State} (h : s.store.commit = none) (who : Requester) (q : Unit) :
    ownProfileDiscard s who q = (s.discardStaging, okWith []) :=
  if_neg (by simp [h])

/-! ## The whole request -/

section
variable {s : State} {p : PortId} {r : List Byte} {slot : Slot} {info : SessionInfo}

/-- R167: a CONTROL session never reaches the profile store. -/
theorem exec_profileDiscard_of_control (ha : s.asks p .profileDiscard r slot info) (hl : r.length = 3)
    (hc : info.role = .control) :
    exec (.profileDiscard p) s
      = .next ({ s with sessions := s.sessions.reload slot }.answer p 0x53#8 (refuse .notPermitted)) := by
  rw [exec_profileDiscard, State.serve_notPermitted ha (decodeNone_of_length hl) hc]
  rfl

/-- R59, R140: while a commit is in flight the keepalive is reloaded and the store refuses. -/
theorem exec_profileDiscard_of_committing (ha : s.asks p .profileDiscard r slot info) (hl : r.length = 3)
    (hm : info.role = .maintenance) (hcommit : s.store.commit ≠ none) :
    exec (.profileDiscard p) s
      = .next ({ s with sessions := s.sessions.reload slot }.answer p 0x53#8 (refuse .committing)) := by
  rw [exec_profileDiscard, State.serve_owner ha (decodeNone_of_length hl) fun _ => hm,
    ownProfileDiscard_of_committing (s := { s with sessions := s.sessions.reload slot }) hcommit]
  rfl

/-- R59, R140: otherwise the keepalive is reloaded and the staging profile discarded. -/
theorem exec_profileDiscard_of_no_commit (ha : s.asks p .profileDiscard r slot info) (hl : r.length = 3)
    (hm : info.role = .maintenance) (hcommit : s.store.commit = none) :
    exec (.profileDiscard p) s
      = .next ({ s with sessions := s.sessions.reload slot }.discardStaging.answer p 0x53#8 (okWith [])) := by
  rw [exec_profileDiscard, State.serve_owner ha (decodeNone_of_length hl) fun _ => hm,
    ownProfileDiscard_of_no_commit (s := { s with sessions := s.sessions.reload slot }) hcommit]
  rfl

end

/-- Settles O38: the decoder refuses a CONTROL session, and the profile store answers the MAINTENANCE session by whether
a commit is in flight; in every case the check has reloaded the keepalive. -/
theorem profileDiscardResetsStaging : Obligations.ProfileDiscardResetsStaging := by
  unfold Obligations.ProfileDiscardResetsStaging
  intro s p r slot info ha hl refusedWith
  have ⟨_, _, hopen, _⟩ := ha
  refine ⟨fun hc => ?_, fun hm hcommit => ?_, fun hm hcommit => ?_⟩
  · exact ⟨_, exec_profileDiscard_of_control ha hl hc, rfl, SessionTable.reload_reloaded hopen rfl, rfl⟩
  · exact ⟨_, exec_profileDiscard_of_committing ha hl hm hcommit, rfl, SessionTable.reload_reloaded hopen rfl, rfl⟩
  · exact ⟨_, exec_profileDiscard_of_no_commit ha hl hm hcommit, rfl, SessionTable.reload_reloaded hopen rfl, rfl⟩

end Sys2Proof.Machine
end

section
/-! PROOFS. Frames that reach no block: a dropped SUBMIT and a frame of unknown kind (R153), and PEEK (R158). What the
port does with each kind of frame, then what the rise of chip select leaves when 0x00 follows the status byte. -/

-- The whole text compiles close to the check's memory limit, so this part starts no threads of its own.
set_option Elab.async false

namespace Sys2Proof.Machine

/-! ## What the port does with the frame -/

/-- R149: a frame of kind SUBMIT is judged as one. -/
theorem Port.judge_submit (q : Port) (stateAtFall : PortState) (bytes : List Byte) :
    q.judge stateAtFall (submitKind :: bytes) = q.takeSubmit stateAtFall (submitKind :: bytes) := by
  simp [Port.judge]

/-- R158: the port does nothing with a PEEK. -/
theorem Port.judge_peek (q : Port) (stateAtFall : PortState) (bytes : List Byte) :
    q.judge stateAtFall (peekKind :: bytes) = q := by
  simp [Port.judge, peekKind, submitKind, collectKind]

/-- R153: a frame of none of the four kinds is dropped. -/
theorem Port.judge_unknown (q : Port) (stateAtFall : PortState) {k : Byte} (bytes : List Byte)
    (hk : k ∉ [submitKind, collectKind, peekKind, clearKind]) : q.judge stateAtFall (k :: bytes) = q.drop := by
  simp only [List.mem_cons, List.not_mem_nil, or_false, not_or] at hk
  obtain ⟨hsubmit, hcollect, hpeek, hclear⟩ := hk
  simp [Port.judge, hsubmit, hcollect, hpeek, hclear]

/-- R152, R153: a SUBMIT is dropped unless the port was READY at the fall and the frame gives request bytes. -/
theorem Port.takeSubmit_eq_drop (q : Port) {stateAtFall : PortState} {frame : List Byte}
    (h : stateAtFall ≠ .ready ∨ submitRequest frame = none) : q.takeSubmit stateAtFall frame = q.drop := by
  cases stateAtFall with
  | ready => simp [Port.takeSubmit, h.resolve_left (· rfl)]
  | starting | working | answering => rfl

/-- R152, R154: without a fitting length, count of bytes and CRC a SUBMIT gives no request bytes. -/
theorem submitRequest_eq_none {bytes : List Byte} (h : ¬ ∃ r : List Byte, 2 ≤ r.length ∧ r.length ≤ 60
      ∧ bytes = BitVec.ofNat 8 r.length :: r ++ [crc8 (BitVec.ofNat 8 r.length :: r)]) :
    submitRequest (submitKind :: bytes) = none :=
  Option.eq_none_iff_forall_ne_some.mpr fun r hr => h ⟨r, submitRequest_eq_some hr⟩

/-! ## The rise of chip select -/

/-- R149, R152, R158: but for a COLLECT of a held response, the rise shifts out 0x00 after the status byte; `judged` is
what the port makes of the frame. -/
theorem State.csRise_plain {s : State} {p : PortId} {tr : OpenTransaction} {k : Byte}
    (h : (s.ports.get p).transaction = some tr)
    (hplain : tr.stateAtFall ≠ .answering ∨ k ≠ collectKind) (bytes : List Byte) (bits : Fin 8) {judged : Port → Port}
    (hjudge : ∀ q : Port, q.judge tr.stateAtFall (k :: bytes) = judged q) :
    s.csRise p (k :: bytes) bits = s.modifyPort p fun q => { judged q with
      csLow := false, transaction := none
      shiftedOut := tr.status :: List.replicate bytes.length 0x00#8
      shiftedBits := List.replicate bits.val false } := by
  rw [State.csRise_open h]
  congr 1
  funext q
  rw [Port.endTransaction, hjudge, q.shifted_plain tr k bytes hplain, q.lastBits_plain tr k bytes bits hplain]

/-! ## The status byte -/

theorem SupervisorState.code_le_three (st : SupervisorState) : st.code ≤ 3 := by cases st <;> decide

/-- R150: bit 4 of the status byte is DROPPED. -/
theorem statusByte_dropped (s : State) (p : PortId) : (statusByte s p).getLsbD 4 = (s.ports.get p).dropped := by
  have hsup := s.supervisor.state.code_le_three
  have hquiesced := s.outputs.quiesced.toNat_le
  have hdefaulted := s.store.defaulted.toNat_le
  rw [statusByte, BitVec.getLsbD_ofNat, Nat.testBit_eq_decide_div_mod_eq]
  cases (s.ports.get p).dropped <;> simp <;> omega

/-! ## The obligations -/

/-- Settles O12: a SUBMIT not accepted and a frame of unknown kind both end in `Port.drop`, with 0x00 after the status
byte, and the status byte formed next carries DROPPED. -/
theorem droppedFrameSetsDroppedOnly : Obligations.DroppedFrameSetsDroppedOnly := by
  unfold Obligations.DroppedFrameSetsDroppedOnly
  intro s p tr bytes bits htr dropped
  refine ⟨fun hbad => ?submit, fun k hk => ?unknown, ?status⟩
  case submit =>
    have hdrop : tr.stateAtFall ≠ .ready ∨ submitRequest (submitKind :: bytes) = none :=
      hbad.imp_right submitRequest_eq_none
    exact congrArg Host.Outcome.next (State.csRise_plain htr (.inr (by decide)) bytes bits fun q =>
      (q.judge_submit _ bytes).trans (q.takeSubmit_eq_drop hdrop))
  case unknown =>
    have hcollect : k ≠ collectKind := fun hkc => hk (by simp [hkc, collectKind])
    exact congrArg Host.Outcome.next (State.csRise_plain htr (.inr hcollect) bytes bits fun q =>
      q.judge_unknown _ bytes hk)
  case status =>
    rw [statusByte_dropped, Ports.get_modify, if_pos rfl]

/-- Settles O15: the port does nothing with a PEEK, and 0x00 follows the status byte whatever response it holds. -/
theorem peekChangesNothing : Obligations.PeekChangesNothing := by
  unfold Obligations.PeekChangesNothing
  intro s p tr bytes bits htr
  refine ⟨_, rfl, ?_⟩
  exact State.csRise_plain htr (.inr (by decide)) bytes bits fun q => q.judge_peek _ bytes

end Sys2Proof.Machine
end

section
/-! PROOFS. What every command leaves as it was, block by block, and the shape of a proof that each step keeps a rule: the
commands that cannot touch a block are dealt with once, here. -/

-- The whole text compiles close to the check's memory limit, so this part starts no threads of its own.
set_option Elab.async false

namespace Sys2Proof.Machine

/-! ## The step -/

/-- A rule that every command and every oscillator period keep, and that does not read the queue, is kept by every
step. -/
theorem step_keeps {P : State → Prop} (hqueue : ∀ (s : State) (rest : List Instr), P s → P { s with pending := rest })
    (hexec : ∀ (i : Instr) (s t : State), P s → exec i s = .next t → P t)
    (hperiod : ∀ s : State, P s → P s.internalPeriod) {s t : State} (h : P s) (hstep : step s = .next t) : P t := by
  unfold step at hstep
  split at hstep
  next c rest hpending => exact hexec c _ t (hqueue s rest h) hstep
  next hempty =>
    split at hstep
    next c hdue => exact hexec c s t h hstep
    next hnone =>
      cases hstep
      exact hperiod s h

/-! ## Requests and ticks -/

theorem SessionTable.info?_eq_some {t : SessionTable} {slot : Slot} {info : SessionInfo} :
    t.info? slot = some info ↔ (t.recs.get slot).state = .opened info := by
  unfold SessionTable.info? SessionState.info?
  cases (t.recs.get slot).state <;> simp

/-- R58, R59: what the session-handle check can leave: the table as it was, a lapsed slot closed, or an OPEN session's
keepalive reloaded. -/
def SessionTable.checkedTo (t u : SessionTable) : Prop :=
  u = t ∨ (∃ slot, (t.recs.get slot).state = .lapsed ∧ u = t.closeLapsed slot)
    ∨ ∃ slot info, t.info? slot = some info ∧ u = t.reload slot

theorem SessionTable.check_refused {t u : SessionTable} {p : PortId} {h : WireHandle} {why : Result}
    (hc : t.check p h = .refused why u) : t.checkedTo u := by
  unfold SessionTable.check at hc
  split at hc
  · cases hc; exact .inl rfl
  · split at hc
    · cases hc; exact .inl rfl
    next hlapsed => cases hc; exact .inr (.inl ⟨_, hlapsed, rfl⟩)
    · split at hc <;> cases hc
      exact .inl rfl

theorem SessionTable.check_eq_passed {t u : SessionTable} {p : PortId} {h : WireHandle} {slot : Slot}
    {info' : SessionInfo} (hc : t.check p h = .passed slot info' u) :
    ∃ info, t.named h = some slot ∧ t.info? slot = some info ∧ info.port = p
      ∧ info' = { info with remaining := info.interval } ∧ u = t.reload slot := by
  unfold SessionTable.check at hc
  split at hc
  · cases hc
  next hnamed =>
    split at hc
    · cases hc
    · cases hc
    next info hopen =>
      split at hc <;> cases hc
      next hport => exact ⟨info, hnamed, SessionTable.info?_eq_some.mpr hopen, hport, rfl, rfl⟩

/-- R163: what becomes of a request: with none in flight nothing; one refused is answered so, after what its session
handle's check leaves; one that passes is handed to its owner. -/
theorem State.serve_cases {α : Type} (s : State) (p : PortId) (code : RequestCode)
    (decode : List Byte → Except Result α) (maintenanceOnly : Bool)
    (owner : State → Requester → α → State × Reply) :
    s.serve p code decode maintenanceOnly owner = s
      ∨ (∃ r t why, s.requestOf p code.byte = some r ∧ s.sessions.checkedTo t
          ∧ s.serve p code decode maintenanceOnly owner = { s with sessions := t }.answer p code.byte (refuse why))
      ∨ ∃ r slot info q, s.asks p code r slot info ∧ decode r = .ok q
          ∧ (maintenanceOnly = true → info.role = .maintenance)
          ∧ s.serve p code decode maintenanceOnly owner
            = (owner { s with sessions := s.sessions.reload slot } ⟨slot, { info with remaining := info.interval }⟩ q).1.answer
                p code.byte
                (owner { s with sessions := s.sessions.reload slot } ⟨slot, { info with remaining := info.interval }⟩ q).2 := by
  cases hr : s.requestOf p code.byte with
  | none => exact .inl (State.serve_none hr)
  | some r =>
    cases hd : decode r with
    | error why => exact .inr (.inl ⟨r, s.sessions, why, rfl, .inl rfl, State.serve_formRefused hr hd⟩)
    | ok q =>
      cases hc : s.sessions.check p (handleAt r 1) with
      | refused why t =>
        exact .inr (.inl ⟨r, t, why, rfl, SessionTable.check_refused hc, State.serve_sessionRefused hr hd hc⟩)
      | passed slot info' t =>
        obtain ⟨info, hnamed, hopen, hport, -, -⟩ := SessionTable.check_eq_passed hc
        have ha : s.asks p code r slot info := ⟨hr, hnamed, hopen, hport⟩
        by_cases hm : maintenanceOnly = true → info.role = .maintenance
        · exact .inr (.inr ⟨r, slot, info, q, ha, hd, hm, State.serve_owner ha hd hm⟩)
        · obtain ⟨rfl, hrole⟩ := Classical.not_imp.mp hm
          have hcontrol : info.role = .control := by cases hi : info.role <;> simp_all
          exact .inr (.inl ⟨r, _, _, rfl, .inr (.inr ⟨slot, info, hopen, rfl⟩), State.serve_notPermitted ha hd hcontrol⟩)

/-- A rule that reads neither the session table nor the ports is kept by a request whose owner keeps it. -/
theorem State.serve_keeps {α : Type} {P : State → Prop} (hsessions : ∀ u t, P u → P { u with sessions := t })
    (hports : ∀ u p f, P u → P (u.modifyPort p f)) {s : State} (h : P s) (p : PortId) (code : RequestCode)
    (decode : List Byte → Except Result α) (maintenanceOnly : Bool) {owner : State → Requester → α → State × Reply}
    (howner : ∀ u who q, P u → P (owner u who q).1) : P (s.serve p code decode maintenanceOnly owner) := by
  rcases s.serve_spec p code decode maintenanceOnly owner with hs | ⟨t, why, hs⟩ | ⟨t, who, q, hs⟩
  · rw [hs]; exact h
  · rw [hs]; exact hports _ p _ (hsessions s t h)
  · rw [hs]; exact hports _ p _ (howner _ who q (hsessions s t h))

/-- A rule that does not read the ticks handed out is kept by a tick taken, if it is by what the block does at it. -/
theorem State.takeTick_keeps {P : State → Prop}
    (hticks : ∀ u ticks, P u → P { u with transit := { u.transit with ticks := ticks } }) {b : TickTaker}
    (hblock : ∀ u, P u → P (u.blockTick b)) {s : State} (h : P s) : P (s.takeTick b) := by
  unfold State.takeTick
  split
  · exact h
  · exact hblock _ (hticks s _ h)

/-- A rule that each block's tick and the handing out of a tick keep is kept by TICK. -/
theorem execTick_keeps {P : State → Prop} (hproduce : ∀ u, P u → P u.produceTick)
    (htake : ∀ u b, P u → P (u.takeTick b)) {s t : State} {takers : List TickTaker} (h : P s)
    (hx : execTick takers s = .next t) : P t := by
  have hall : ∀ (bs : List TickTaker) (u : State), P u → P (bs.foldl State.takeTick u) := by
    intro bs
    induction bs with
    | nil => exact fun _ hu => hu
    | cons b bs ih => exact fun u hu => ih _ (htake u b hu)
  unfold execTick at hx
  split at hx
  · cases hx; exact hall takers s h
  · split at hx <;> cases hx
    · exact hall takers _ (hproduce s h)
    · exact h

/-- R164: a request is taken by the command of its row: what a rule asks of a request, it asks of `State.serve`. -/
theorem served_eq {α β : Type} (F : State → β) {s t : State} {p : PortId} {code : RequestCode}
    {decode : List Byte → Except Result α} {maintenanceOnly : Bool} {owner : State → Requester → α → State × Reply}
    (hsessions : ∀ u t, F { u with sessions := t } = F u) (hports : ∀ u p f, F (u.modifyPort p f) = F u)
    (kept : ∀ u who q, F (owner u who q).1 = F u)
    (hx : (.next (s.serve p code decode maintenanceOnly owner) : Host.Outcome State Fault Refusal) = .next t) :
    F t = F s := by
  cases hx
  exact State.serve_keeps (P := fun u => F u = F s) (fun u t hu => (hsessions u t).trans hu)
    (fun u p f hu => (hports u p f).trans hu) rfl p code decode maintenanceOnly
    fun u who q hu => (kept u who q).trans hu

/-! ## Commands that touch the ports and the session table alone -/

/-- The frames, the taking of a response, and the requests that only read. -/
def linkOnly : Instr → Bool
  | .submit _ _ | .collect _ _ | .peek _ _ | .clear _ _ | .unknownFrame _ _ | .responseProduced _ | .unknownRequest _
  | .keepalive _ | .queryClaim _ | .queryChannel _ | .queryDevice _ _ | .profileRead _ => true
  | _ => false

/-- From `s` to `t`, only the ports and the session table change. -/
def State.linkChange (s t : State) : Prop := t = { s with ports := t.ports, sessions := t.sessions }

theorem State.linkChange_refl (s : State) : s.linkChange s := rfl

theorem State.linkChange_modifyPort (s : State) (p : PortId) (f : Port → Port) : s.linkChange (s.modifyPort p f) := rfl

theorem State.linkChange_trans {s t u : State} (h₁ : s.linkChange t) (h₂ : t.linkChange u) : s.linkChange u := by
  rw [State.linkChange] at *
  rw [h₂, h₁]

theorem State.linkChange_transact (s : State) (p : PortId) (kind : List Byte) (x : Transaction) :
    s.linkChange (s.transact p kind x) := by
  have hfall : s.linkChange (s.csFall p) := by unfold State.csFall; split <;> rfl
  have hrise : ∀ (u : State) bytes bits, u.linkChange (u.csRise p bytes bits) := by
    intro u bytes bits; unfold State.csRise; split <;> rfl
  cases x with
  | fall => exact hfall
  | rise bytes bits => exact hrise s _ bits
  | whole bytes bits => exact State.linkChange_trans hfall (hrise _ _ bits)

theorem State.linkChange_readDevice (s : State) (p : PortId) (g : DeviceReading) (reads : List DeviceBlock) :
    s.linkChange (s.readDevice p g reads) := by
  obtain ⟨f, hf, -⟩ := s.readDevice_spec p g reads
  rw [hf]
  exact s.linkChange_modifyPort p f

/-- A request whose owner changes nothing. -/
theorem State.linkChange_serve {α : Type} (s : State) (p : PortId) (code : RequestCode)
    (decode : List Byte → Except Result α) (maintenanceOnly : Bool) {owner : State → Requester → α → State × Reply}
    (kept : ∀ u who q, (owner u who q).1 = u) : s.linkChange (s.serve p code decode maintenanceOnly owner) :=
  State.serve_keeps (P := s.linkChange) (fun u t hu => State.linkChange_trans hu rfl)
    (fun u p f hu => State.linkChange_trans hu (u.linkChange_modifyPort p f)) s.linkChange_refl p code decode maintenanceOnly
    fun u who q hu => by rw [kept]; exact hu

theorem exec_linkChange {i : Instr} {s t : State} (hi : linkOnly i = true) (hx : exec i s = .next t) :
    s.linkChange t := by
  cases i with
  | submit p x | collect p x | peek p x | clear p x | unknownFrame p x => cases hx; exact s.linkChange_transact p _ x
  | responseProduced p =>
    simp only [exec, execResponseProduced] at hx
    split at hx <;> cases hx <;> rfl
  | unknownRequest p =>
    simp only [exec, execUnknownRequest] at hx
    split at hx
    · cases hx; rfl
    · split at hx <;> cases hx <;> rfl
  | keepalive p => cases hx; exact s.linkChange_serve p _ _ _ fun _ _ _ => rfl
  | queryChannel p => cases hx; exact s.linkChange_serve p _ _ _ fun _ _ _ => rfl
  | queryClaim p =>
    cases hx
    refine s.linkChange_serve p _ _ _ fun u who q => ?_
    unfold ownQueryClaim; split
    · rfl
    · split <;> rfl
  | profileRead p =>
    cases hx
    refine s.linkChange_serve p _ _ _ fun u who q => ?_
    unfold ownProfileRead; split <;> rfl
  | queryDevice p reads =>
    simp only [exec, execQueryDevice] at hx
    split at hx
    · cases hx; exact s.linkChange_readDevice p _ reads
    · rcases s.commonChecks_spec p .queryDevice decodeNone false with hc | ⟨u, why, hc⟩ | ⟨u, who, q, hc⟩ <;>
        rw [hc] at hx <;> cases hx
      · rfl
      · rfl
      · exact State.linkChange_trans (t := { s with sessions := u }) rfl (State.linkChange_readDevice _ p .unread reads)
  | _ => cases hi

/-! ## Commands that leave a block alone -/

/-- The commands that can change a claim record or a holder stack. -/
def changesClaims : Instr → Bool
  | .deviceReset _ _ | .closeSession _ | .claim _ | .set _ | .setIf _ | .renew _ | .release _ | .transfer _ | .revoke _
  | .fetch _ | .tick _ | .leaseExpiry | .sessionLapse | .lapsedEntry => true
  | _ => false

theorem exec_claims {i : Instr} {s t : State} (hi : changesClaims i = false) (hx : exec i s = .next t) :
    t.claims = s.claims := by
  cases i with
  | deviceReset _ _ | closeSession _ | claim _ | set _ | setIf _ | renew _ | release _ | transfer _ | revoke _ | fetch _
  | tick _ | leaseExpiry | sessionLapse | lapsedEntry => cases hi
  | submit _ _ | collect _ _ | peek _ _ | clear _ _ | unknownFrame _ _ | responseProduced _ | unknownRequest _
  | keepalive _ | queryClaim _ | queryChannel _ | queryDevice _ _ | profileRead _ =>
    rw [exec_linkChange rfl hx]
  | openSession p => cases hx; exact s.serveOpen_claims p
  | clearFault p | resume p | profileStage p | profileCommit p | profileDiscard p =>
    exact served_eq State.claims (fun _ _ => rfl) (fun _ _ _ => rfl) (fun u who q => by simp) hx
  | faultNotice c => cases hx; exact s.takeFaultNotice_claims c
  | resetEnd | startUpLoadCompletion | commitCompletion _ _ | windowEnd | conversionCompletion _ | channelFault _
  | topReport _ | valueReport _ | quiescenFall | quiescenRise | refclkEdge =>
    simp only [exec, execResetEnd, execStartUpLoadCompletion, execCommitCompletion, execWindowEnd,
      execConversionCompletion, execChannelFault, execTopReport, execValueReport, execQuiescenFall, execQuiescenRise,
      execRefclkEdge] at hx
    repeat' split at hx
    all_goals cases hx; simp

/-- The commands that can change the supervisor. -/
def changesSupervisor : Instr → Bool
  | .deviceReset _ _ | .startUpLoadCompletion | .resume _ | .commitCompletion _ _ | .windowEnd | .tick _ | .lapsedEntry
  | .refclkEdge => true
  | _ => false

/-- R118: of the five blocks the supervisor alone counts its countdown. -/
theorem State.takeTick_supervisor (s : State) {b : TickTaker} (hb : b ≠ .supervisor) :
    (s.takeTick b).supervisor = s.supervisor := by
  unfold State.takeTick
  split
  · rfl
  · cases b with
    | supervisor => exact absurd rfl hb
    | claimTable | sessionTable | outputStage | readbackMonitor => simp [State.blockTick]

theorem exec_supervisor {i : Instr} {s t : State} (hi : changesSupervisor i = false) (hx : exec i s = .next t) :
    t.supervisor = s.supervisor := by
  cases i with
  | deviceReset _ _ | startUpLoadCompletion | resume _ | commitCompletion _ _ | windowEnd | tick _ | lapsedEntry
  | refclkEdge => cases hi
  | submit _ _ | collect _ _ | peek _ _ | clear _ _ | unknownFrame _ _ | responseProduced _ | unknownRequest _
  | keepalive _ | queryClaim _ | queryChannel _ | queryDevice _ _ | profileRead _ =>
    rw [exec_linkChange rfl hx]
  | openSession p => cases hx; exact s.serveOpen_supervisor p
  | closeSession p | claim p | set p | setIf p | renew p | release p | transfer p | revoke p | fetch p | clearFault p
  | profileStage p | profileCommit p | profileDiscard p =>
    exact served_eq State.supervisor (fun _ _ => rfl) (fun _ _ _ => rfl) (fun u who q => by simp) hx
  | faultNotice c => cases hx; exact s.takeFaultNotice_supervisor c
  | leaseExpiry => obtain rfl := Host.Outcome.next.inj hx; rw [State.expire_supervisor, s.takeTick_supervisor (by decide)]
  | sessionLapse => obtain rfl := Host.Outcome.next.inj hx; rw [State.lapseSessions_supervisor, s.takeTick_supervisor (by decide)]
  | resetEnd | conversionCompletion _ | channelFault _ | topReport _ | valueReport _ | quiescenFall | quiescenRise =>
    simp only [exec, execResetEnd, execConversionCompletion, execChannelFault, execTopReport, execValueReport,
      execQuiescenFall, execQuiescenRise] at hx
    repeat' split at hx
    all_goals cases hx; simp

/-- The commands that can change the profile store. -/
def changesStore : Instr → Bool
  | .deviceReset _ _ | .resetEnd | .startUpLoadCompletion | .closeSession _ | .profileStage _ | .profileCommit _
  | .profileDiscard _ | .commitCompletion _ _ | .tick _ | .sessionLapse => true
  | _ => false

/-- R118: of the five blocks the session table alone touches the store at its tick, by a session's end (R62). -/
theorem State.takeTick_store (s : State) {b : TickTaker} (hb : b ≠ .sessionTable) :
    (s.takeTick b).store = s.store := by
  unfold State.takeTick
  split
  · rfl
  · cases b with
    | sessionTable => exact absurd rfl hb
    | claimTable | outputStage | readbackMonitor | supervisor => simp [State.blockTick]

theorem exec_store {i : Instr} {s t : State} (hi : changesStore i = false) (hx : exec i s = .next t) :
    t.store = s.store := by
  cases i with
  | deviceReset _ _ | resetEnd | startUpLoadCompletion | closeSession _ | profileStage _ | profileCommit _
  | profileDiscard _ | commitCompletion _ _ | tick _ | sessionLapse => cases hi
  | submit _ _ | collect _ _ | peek _ _ | clear _ _ | unknownFrame _ _ | responseProduced _ | unknownRequest _
  | keepalive _ | queryClaim _ | queryChannel _ | queryDevice _ _ | profileRead _ =>
    rw [exec_linkChange rfl hx]
  | openSession p => cases hx; exact s.serveOpen_store p
  | claim p | set p | setIf p | renew p | release p | transfer p | revoke p | fetch p | clearFault p | resume p =>
    exact served_eq State.store (fun _ _ => rfl) (fun _ _ _ => rfl) (fun u who q => by simp) hx
  | faultNotice c => cases hx; exact s.takeFaultNotice_store c
  | leaseExpiry => obtain rfl := Host.Outcome.next.inj hx; rw [State.expire_store, s.takeTick_store (by decide)]
  | lapsedEntry => obtain rfl := Host.Outcome.next.inj hx; rw [State.lapseIfOut_store, s.takeTick_store (by decide)]
  | windowEnd | conversionCompletion _ | channelFault _ | topReport _ | valueReport _ | quiescenFall | quiescenRise
  | refclkEdge =>
    simp only [exec, execWindowEnd, execConversionCompletion, execChannelFault, execTopReport, execValueReport,
      execQuiescenFall, execQuiescenRise, execRefclkEdge] at hx
    repeat' split at hx
    all_goals cases hx; simp

/-- The commands that can change the readback monitor. -/
def changesMonitor : Instr → Bool
  | .deviceReset _ _ | .startUpLoadCompletion | .commitCompletion _ _ | .tick _ | .channelFault _ | .clearFault _
  | .topReport _ | .valueReport _ | .quiescenFall | .quiescenRise | .conversionCompletion _ => true
  | _ => false

/-- R118: a tick reaches the monitor as its own search, or as a ramp step that disturbs a conversion. -/
theorem State.takeTick_monitor (s : State) {b : TickTaker} (ho : b ≠ .outputStage) (hm : b ≠ .readbackMonitor) :
    (s.takeTick b).monitor = s.monitor := by
  unfold State.takeTick
  split
  · rfl
  · cases b with
    | outputStage => exact absurd rfl ho
    | readbackMonitor => exact absurd rfl hm
    | claimTable | sessionTable | supervisor => simp [State.blockTick]

theorem exec_monitor {i : Instr} {s t : State} (hi : changesMonitor i = false) (hx : exec i s = .next t) :
    t.monitor = s.monitor := by
  cases i with
  | deviceReset _ _ | startUpLoadCompletion | commitCompletion _ _ | tick _ | channelFault _ | clearFault _
  | topReport _ | valueReport _ | quiescenFall | quiescenRise | conversionCompletion _ => cases hi
  | submit _ _ | collect _ _ | peek _ _ | clear _ _ | unknownFrame _ _ | responseProduced _ | unknownRequest _
  | keepalive _ | queryClaim _ | queryChannel _ | queryDevice _ _ | profileRead _ =>
    rw [exec_linkChange rfl hx]
  | openSession p => cases hx; exact s.serveOpen_monitor p
  | closeSession p | claim p | set p | setIf p | renew p | release p | transfer p | revoke p | fetch p | resume p
  | profileStage p | profileCommit p | profileDiscard p =>
    exact served_eq State.monitor (fun _ _ => rfl) (fun _ _ _ => rfl) (fun u who q => by simp) hx
  | faultNotice c => cases hx; exact s.takeFaultNotice_monitor c
  | leaseExpiry => obtain rfl := Host.Outcome.next.inj hx; rw [State.expire_monitor, s.takeTick_monitor (by decide) (by decide)]
  | sessionLapse => obtain rfl := Host.Outcome.next.inj hx; rw [State.lapseSessions_monitor, s.takeTick_monitor (by decide) (by decide)]
  | lapsedEntry => obtain rfl := Host.Outcome.next.inj hx; rw [State.lapseIfOut_monitor, s.takeTick_monitor (by decide) (by decide)]
  | resetEnd | windowEnd | refclkEdge =>
    simp only [exec, execResetEnd, execWindowEnd, execRefclkEdge] at hx
    repeat' split at hx
    all_goals cases hx; simp

/-! ## The progress of the start-up load -/

/-- RESETn and the progress of the start-up load. -/
def State.loadStatus (s : State) : Bool × Bool × Option LoadChoice :=
  (s.resetHeld, s.store.loadInProgress, s.store.loadChoice)

/-- R62: a session's end leaves the load alone. -/
theorem State.endSession_loadStatus (s : State) (slot : Slot) (info : SessionInfo) (lapses : Bool) :
    (s.endSession slot info lapses).loadStatus = s.loadStatus := by
  by_cases hm : info.role = .maintenance <;> simp [State.loadStatus, State.endSession, hm]

theorem State.lapseSlot_loadStatus (s : State) (slot : Slot) : (s.lapseSlot slot).loadStatus = s.loadStatus := by
  unfold State.lapseSlot
  split
  · split
    · exact s.endSession_loadStatus slot _ true
    · rfl
  · rfl

theorem State.lapseSessions_loadStatus (s : State) : s.lapseSessions.loadStatus = s.loadStatus := by
  have hall : ∀ (slots : List Slot) (u : State), (slots.foldl State.lapseSlot u).loadStatus = u.loadStatus := by
    intro slots
    induction slots with
    | nil => exact fun _ => rfl
    | cons slot slots ih => exact fun u => (ih _).trans (u.lapseSlot_loadStatus slot)
  exact hall _ s

theorem State.blockTick_loadStatus (s : State) (b : TickTaker) : (s.blockTick b).loadStatus = s.loadStatus := by
  cases b with
  | sessionTable => rw [State.blockTick, State.lapseSessions_loadStatus]; rfl
  | claimTable | outputStage | readbackMonitor | supervisor => simp [State.loadStatus, State.blockTick]

theorem State.takeTick_loadStatus (s : State) (b : TickTaker) : (s.takeTick b).loadStatus = s.loadStatus :=
  State.takeTick_keeps (P := fun u => u.loadStatus = s.loadStatus) (fun _ _ hu => hu)
    (fun u hu => (u.blockTick_loadStatus b).trans hu) rfl

/-- R134, R135: device reset, its end, and the load's completion alone change it. -/
theorem exec_loadStatus {i : Instr} {s t : State} (hreset : ∀ reached flaws, i ≠ .deviceReset reached flaws)
    (hend : i ≠ .resetEnd) (hload : i ≠ .startUpLoadCompletion) (hx : exec i s = .next t) :
    t.loadStatus = s.loadStatus := by
  cases i with
  | deviceReset reached flaws => exact absurd rfl (hreset reached flaws)
  | resetEnd => exact absurd rfl hend
  | startUpLoadCompletion => exact absurd rfl hload
  | submit _ _ | collect _ _ | peek _ _ | clear _ _ | unknownFrame _ _ | responseProduced _ | unknownRequest _
  | keepalive _ | queryClaim _ | queryChannel _ | queryDevice _ _ | profileRead _ =>
    rw [exec_linkChange rfl hx]
    rfl
  | openSession p => cases hx; simp [State.loadStatus, State.serveOpen_resetHeld, State.serveOpen_store]
  | claim p | set p | setIf p | renew p | release p | transfer p | revoke p | fetch p | clearFault p | resume p =>
    exact served_eq State.loadStatus (fun _ _ => rfl) (fun _ _ _ => rfl) (fun u who q => by simp [State.loadStatus]) hx
  | closeSession p =>
    exact served_eq State.loadStatus (fun _ _ => rfl) (fun _ _ _ => rfl)
      (fun u who q => u.endSession_loadStatus who.slot who.info false) hx
  | profileStage p =>
    exact served_eq State.loadStatus (fun _ _ => rfl) (fun _ _ _ => rfl)
      (fun u who q => by unfold ownProfileStage; repeat' split
                         all_goals rfl) hx
  | profileCommit p =>
    exact served_eq State.loadStatus (fun _ _ => rfl) (fun _ _ _ => rfl)
      (fun u who q => by unfold ownProfileCommit; repeat' split
                         all_goals rfl) hx
  | profileDiscard p =>
    exact served_eq State.loadStatus (fun _ _ => rfl) (fun _ _ _ => rfl)
      (fun u who q => by unfold ownProfileDiscard; split <;> rfl) hx
  | tick takers =>
    exact execTick_keeps (P := fun u => u.loadStatus = s.loadStatus) (fun u hu => hu)
      (fun u b hu => (u.takeTick_loadStatus b).trans hu) rfl hx
  | leaseExpiry => obtain rfl := Host.Outcome.next.inj hx; exact Eq.trans (by simp [State.loadStatus]) (s.takeTick_loadStatus .claimTable)
  | sessionLapse => obtain rfl := Host.Outcome.next.inj hx; exact (State.lapseSessions_loadStatus _).trans (s.takeTick_loadStatus .sessionTable)
  | lapsedEntry => obtain rfl := Host.Outcome.next.inj hx; exact Eq.trans (by simp [State.loadStatus]) (s.takeTick_loadStatus .supervisor)
  | faultNotice c => cases hx; simp [State.loadStatus]
  | commitCompletion flaws order =>
    simp only [exec, execCommitCompletion] at hx
    split at hx <;> cases hx
    · unfold State.completeCommit ProfileStore.withCopy
      repeat' split
      all_goals simp [State.loadStatus, ProfileStore.committed, ProfileStore.commitFailed]
    · rfl
  | windowEnd | conversionCompletion _ | channelFault _ | topReport _ | valueReport _ | quiescenFall | quiescenRise
  | refclkEdge =>
    simp only [exec, execWindowEnd, execConversionCompletion, execChannelFault, execTopReport, execValueReport,
      execQuiescenFall, execQuiescenRise, execRefclkEdge] at hx
    repeat' split at hx
    all_goals cases hx; simp [State.loadStatus]

/-- R134, R135: the rule of the load reads its progress alone. -/
theorem loadInv_of_loadStatus_eq {s t : State} (h : LoadInv s) (he : t.loadStatus = s.loadStatus) : LoadInv t := by
  simp only [State.loadStatus, Prod.mk.injEq] at he
  obtain ⟨hreset, hloading, hchoice⟩ := he
  rw [LoadInv, hreset, hloading, hchoice]
  exact h

/-- R134, R135: every command keeps the rule of the load. -/
theorem exec_loadInv {i : Instr} {s t : State} (h : LoadInv s) (hx : exec i s = .next t) : LoadInv t := by
  obtain ⟨hchoice, hheld⟩ := h
  cases i with
  | deviceReset reached flaws => cases hx; exact ⟨fun _ => rfl, fun _ => ⟨rfl, rfl⟩⟩
  | resetEnd =>
    simp only [exec, execResetEnd] at hx
    split at hx <;> cases hx
    next hr => exact ⟨fun _ => (hheld hr).1, fun hc => by cases hc⟩
    next => exact ⟨hchoice, hheld⟩
  | startUpLoadCompletion =>
    simp only [exec, execStartUpLoadCompletion] at hx
    split at hx <;> cases hx
    next choice hsome =>
      refine ⟨fun hc => by simp [State.completeLoad, ProfileStore.loaded] at hc, fun hr => ?_⟩
      have := (hheld (by simpa using hr)).2
      rw [hsome] at this
      cases this
    next => exact ⟨hchoice, hheld⟩
  | _ => exact loadInv_of_loadStatus_eq ⟨hchoice, hheld⟩ (exec_loadStatus (by simp) (by simp) (by simp) hx)

theorem State.internalPeriod_loadStatus (s : State) : s.internalPeriod.loadStatus = s.loadStatus := by
  simp [State.loadStatus]

end Sys2Proof.Machine
end

section
/-! PROOFS. The decoder (R163 to R166): which requests it refuses for their length or the form of a field, by byte
positions, and which parameters a request that it does not refuse carries to its owner. -/

-- The whole text compiles close to the check's memory limit, so this part starts no threads of its own.
set_option Elab.async false

namespace Sys2Proof.Machine

/-! ## Bytes and words -/

theorem byteAt_eq_octet (r : List Byte) (i : Nat) : byteAt r i = octet r i := rfl

theorem wordAt_eq_octets (r : List Byte) (i : Nat) : wordAt r i = octets r i := by
  rw [wordAt, octets, byteAt_eq_octet, byteAt_eq_octet, Nat.mul_comm]

theorem octet_lt (r : List Byte) (i : Nat) : octet r i < 256 := (r.getD i 0#8).isLt

theorem octets_lt (r : List Byte) (i : Nat) : octets r i < 65536 := by
  have h₁ := octet_lt r i
  have h₂ := octet_lt r (i + 1)
  show 256 * octet r i + octet r (i + 1) < 65536
  omega

theorem chanOf_eq_some {n : Nat} {c : Chan} : chanOf n = some c ↔ c.val = n := by
  unfold chanOf
  split
  next h => simp [Fin.ext_iff, eq_comm]
  next h =>
    have := c.isLt
    simp; omega

theorem chanOf_isSome {n : Nat} : (chanOf n).isSome = true ↔ n ≤ 47 := by
  unfold chanOf
  split
  next h => simp; omega
  next h => simp; omega

/-! ## Pairs (R166) -/

theorem pairAt_eq_some {r : List Byte} {i : Nat} {q : Pair} :
    pairAt r i = some q ↔ q.chan.val = octet r i ∧ q.value = octets r (i + 1) ∧ q.value ≤ 1023 := by
  unfold pairAt
  rw [wordAt_eq_octets, byteAt_eq_octet]
  cases hc : chanOf (octet r i) with
  | none =>
    have hne : q.chan.val ≠ octet r i := fun h => by rw [chanOf_eq_some.mpr h] at hc; cases hc
    simp [hne]
  | some c =>
    obtain ⟨d, v⟩ := q
    have hc := chanOf_eq_some.mp hc
    dsimp only
    rw [Option.ite_none_right_eq_some, Option.some.injEq, Pair.mk.injEq, Fin.ext_iff, hc]
    constructor
    · rintro ⟨hv, hd, rfl⟩; exact ⟨hd.symm, rfl, hv⟩
    · rintro ⟨hd, rfl, hv⟩; exact ⟨hv, hd.symm, rfl⟩

theorem pairAt_isSome {r : List Byte} {i : Nat} :
    (pairAt r i).isSome = true ↔ octet r i ≤ 47 ∧ octets r (i + 1) ≤ 1023 := by
  constructor
  · intro h
    obtain ⟨q, hq⟩ := Option.isSome_iff_exists.mp h
    obtain ⟨hc, hv, hle⟩ := pairAt_eq_some.mp hq
    have := q.chan.isLt
    omega
  · rintro ⟨hc, hv⟩
    exact Option.isSome_iff_exists.mpr ⟨⟨⟨octet r i, by omega⟩, octets r (i + 1)⟩, pairAt_eq_some.mpr ⟨rfl, rfl, hv⟩⟩

theorem pairsAt_isSome {r : List Byte} {i n : Nat} :
    (pairsAt r i n).isSome = true ↔ ∀ j, j < n → octet r (i + 3 * j) ≤ 47 ∧ octets r (i + 3 * j + 1) ≤ 1023 := by
  induction n generalizing i with
  | zero => simp [pairsAt]
  | succ n ih =>
    have hboth : (pairsAt r i (n + 1)).isSome = true ↔
        (pairAt r i).isSome = true ∧ (pairsAt r (i + 3) n).isSome = true := by
      rw [pairsAt]
      cases pairAt r i <;> cases pairsAt r (i + 3) n <;> simp
    rw [hboth, pairAt_isSome, ih]
    constructor
    · rintro ⟨hfirst, hrest⟩ j hj
      cases j with
      | zero => exact hfirst
      | succ j =>
        have := hrest j (by omega)
        rwa [show i + 3 * (j + 1) = i + 3 + 3 * j by omega]
    · intro h
      refine ⟨h 0 (by omega), fun j hj => ?_⟩
      have := h (j + 1) (by omega)
      rwa [show i + 3 * (j + 1) = i + 3 + 3 * j by omega] at this

theorem pairsAt_some {r : List Byte} {i n : Nat} {qs : List Pair} (h : pairsAt r i n = some qs) :
    pairsRead r i n qs ∧ ∀ q ∈ qs, q.value ≤ 1023 := by
  induction n generalizing i qs with
  | zero =>
    obtain rfl : [] = qs := by simpa [pairsAt] using h
    simp [pairsRead]
  | succ n ih =>
    rw [pairsAt] at h
    split at h
    next q qs' hq hqs =>
      obtain rfl := Option.some.inj h
      obtain ⟨hread, hle⟩ := ih hqs
      obtain ⟨hc, hv, hq⟩ := pairAt_eq_some.mp hq
      refine ⟨?_, by simpa using ⟨hq, hle⟩⟩
      rw [pairsRead, List.map_cons, List.range_succ_eq_map, List.map_cons, List.map_map, hread, hc, hv]
      refine congrArg _ (List.map_congr_left fun j _ => ?_)
      simp only [Function.comp, show i + 3 * j.succ = i + 3 + 3 * j by omega]
    next => cases h

/-- R165: as many pairs as the count says. -/
theorem pairsRead_length {r : List Byte} {i n : Nat} {qs : List Pair} (h : pairsRead r i n qs) : qs.length = n := by
  simpa using congrArg List.length h

/-- R166: no channel stands twice among the pairs exactly if no channel byte does. -/
theorem pairsRead_nodup {r : List Byte} {i n : Nat} {qs : List Pair} (h : pairsRead r i n qs) :
    (qs.map Pair.chan).Nodup ↔ ∀ k, k < n → ∀ j, j < k → octet r (i + 3 * j) ≠ octet r (i + 3 * k) := by
  have hbytes : (qs.map Pair.chan).map Fin.val = (List.range n).map fun j => octet r (i + 3 * j) := by
    have := congrArg (List.map Prod.fst) h
    simpa [List.map_map, Function.comp_def] using this
  rw [← List.nodup_map_iff Fin.val_injective, hbytes, List.nodup_map_iff_inj_on List.nodup_range]
  simp only [List.mem_range]
  constructor
  · intro hinj k hk j hj he
    have := hinj j (by omega) k hk he
    omega
  · intro hne j hj k hk he
    rcases Nat.lt_trichotomy j k with hlt | heq | hgt
    · exact absurd he (hne k hk j hlt)
    · exact heq
    · exact absurd he.symm (hne j hj k hgt)

theorem pairListAt_some {r : List Byte} {i n : Nat} {qs : List Pair} (h : pairListAt r i n = some qs) :
    pairsRead r i n qs ∧ 1 ≤ n ∧ n ≤ 8 ∧ (qs.map Pair.chan).Nodup ∧ ∀ q ∈ qs, q.value ≤ 1023 := by
  unfold pairListAt at h
  split at h
  next hn =>
    split at h
    next qs' hqs =>
      split at h
      next hnodup =>
        obtain rfl := Option.some.inj h
        obtain ⟨hread, hle⟩ := pairsAt_some hqs
        exact ⟨hread, hn.1, hn.2, hnodup, hle⟩
      next => cases h
    next => cases h
  next => cases h

theorem pairListAt_isSome {r : List Byte} {i n : Nat} : (pairListAt r i n).isSome = true ↔ pairsHold r i n := by
  unfold pairListAt pairsHold
  by_cases hn : 1 ≤ n ∧ n ≤ 8
  · rw [if_pos hn, ← pairsAt_isSome]
    cases hqs : pairsAt r i n with
    | none => simp
    | some qs =>
      have := pairsRead_nodup (pairsAt_some hqs).1
      simp [hn, this]
  · rw [if_neg hn]
    simp only [Option.isSome_none, Bool.false_eq_true, false_iff]
    exact fun h => hn ⟨h.1, h.2.1⟩

/-! ## Codes of the enumerated items (R169) -/

theorem roleOf_isSome {n : Nat} : (roleOf n).isSome = true ↔ n ≤ 1 := by
  rcases n with _ | _ | n <;> simp [roleOf]

theorem roleOf_some {n : Nat} {role : Role} (h : roleOf n = some role) :
    role = if n = 0 then .control else .maintenance := by
  unfold roleOf at h; split at h <;> simp_all

theorem dispositionOf_isSome {n : Nat} : (dispositionOf n).isSome = true ↔ n ≤ 1 := by
  rcases n with _ | _ | n <;> simp [dispositionOf]

theorem dispositionOf_some {n : Nat} {d : Disposition} (h : dispositionOf n = some d) :
    d = if n = 0 then .immediate else .standby := by
  unfold dispositionOf at h; split at h <;> simp_all

theorem sourceOf_isSome {n : Nat} : (sourceOf n).isSome = true ↔ n ≤ 1 := by
  rcases n with _ | _ | n <;> simp [sourceOf]

theorem sourceOf_some {n : Nat} {src : Source} (h : sourceOf n = some src) :
    src = if n = 0 then .active else .staging := by
  unfold sourceOf at h; split at h <;> simp_all

theorem claimTagAt_isSome {r : List Byte} : (claimTagAt r).isSome = true ↔ octet r 7 ≤ 1 := by
  unfold claimTagAt
  rw [byteAt_eq_octet]
  generalize octet r 7 = n
  rcases n with _ | _ | n <;> simp

theorem claimTagAt_some {r : List Byte} {tag : Option (BitVec 16)} (h : claimTagAt r = some tag) :
    tag.map BitVec.toNat = if octet r 7 = 0 then none else some (octets r 8) := by
  unfold claimTagAt at h
  rw [byteAt_eq_octet, wordAt_eq_octets] at h
  have := octets_lt r 8
  split at h
  next h0 => obtain rfl := Option.some.inj h; simp [h0]
  next h1 =>
    obtain rfl := Option.some.inj h
    simp only [Option.map_some, BitVec.toNat_ofNat, h1, Nat.one_ne_zero, if_false, Option.some.injEq]
    exact Nat.mod_eq_of_lt this
  next => cases h

/-! ## A request of fixed length (R163 steps 2 and 3) -/

theorem ofLength_ok {α : Type} {l : Nat} {r : List Byte} {form : Option α} {a : α} :
    ofLength l r form = .ok a ↔ r.length = l ∧ form = some a := by
  unfold ofLength
  split
  · cases form <;> simp_all
  · simp_all

theorem ofLength_badLength {α : Type} {l : Nat} {r : List Byte} {form : Option α} (h : r.length ≠ l) :
    ofLength l r form = .error .badLength := by simp [ofLength, h]

theorem ofLength_badValue {α : Type} {l : Nat} {r : List Byte} {form : Option α} (h : r.length = l)
    (hform : ¬ form.isSome = true) : ofLength l r form = .error .badValue := by
  cases form <;> simp_all [ofLength]

/-- How a decoder judges a request: by its length, then by the form of its fields. -/
structure Judges {α : Type} (decode : List Byte → Except Result α) (length form : List Byte → Prop) : Prop where
  badLength : ∀ r, ¬ length r → decode r = .error .badLength
  badValue : ∀ r, length r → ¬ form r → decode r = .error .badValue
  passes : ∀ r, length r → form r → ∃ a, decode r = .ok a

theorem judges_ofLength {α : Type} {l : Nat} {fields : List Byte → Option α} {form : List Byte → Prop}
    (hform : ∀ r, (fields r).isSome = true ↔ form r) :
    Judges (fun r => ofLength l r (fields r)) (fun r => r.length = l) form where
  badLength r h := ofLength_badLength h
  badValue r hl h := ofLength_badValue hl fun hs => h ((hform r).mp hs)
  passes r hl h := by
    obtain ⟨a, ha⟩ := Option.isSome_iff_exists.mp ((hform r).mpr h)
    exact ⟨a, ofLength_ok.mpr ⟨hl, ha⟩⟩

/-! ## Each decoder -/

theorem decodeOpen_judges : Judges decodeOpen (RequestCode.lengthHolds .openSession)
    (RequestCode.formHolds .openSession) := by
  refine judges_ofLength fun r => ?_
  simp only [RequestCode.formHolds, ← roleOf_isSome, byteAt_eq_octet, wordAt_eq_octets]
  cases roleOf (octet r 3) <;> simp

theorem decodeNone_judges : Judges decodeNone (fun r => r.length = 3) (fun _ => True) :=
  judges_ofLength fun _ => by simp

theorem decodeHandle_judges : Judges decodeHandle (fun r => r.length = 5) (fun _ => True) :=
  judges_ofLength fun _ => by simp

theorem decodeTransfer_judges : Judges decodeTransfer (fun r => r.length = 8) (fun _ => True) :=
  judges_ofLength fun _ => by simp

theorem decodeChannel_judges : Judges decodeChannel (fun r => r.length = 4) (fun r => octet r 3 ≤ 47) :=
  judges_ofLength fun _ => chanOf_isSome

theorem claimForm_isSome {r : List Byte} : (claimForm r).isSome = true ↔ RequestCode.formHolds .claim r := by
  simp only [RequestCode.formHolds, ← dispositionOf_isSome (n := octet r 4), ← claimTagAt_isSome, ← pairListAt_isSome,
    claimForm, byteAt_eq_octet, wordAt_eq_octets]
  cases dispositionOf (octet r 4) <;> cases claimTagAt r <;> cases pairListAt r 11 (octet r 10) <;> simp

theorem decodeClaim_judges : Judges decodeClaim (RequestCode.lengthHolds .claim) (RequestCode.formHolds .claim) where
  badLength r h := by
    unfold decodeClaim
    split
    · rfl
    · exact ofLength_badLength fun hl => h ⟨by omega, hl⟩
  badValue r hl h := by
    obtain ⟨hlong, hl⟩ := hl
    rw [decodeClaim, if_neg (by omega)]
    exact ofLength_badValue hl fun hs => h (claimForm_isSome.mp hs)
  passes r hl h := by
    obtain ⟨hlong, hl⟩ := hl
    obtain ⟨q, hq⟩ := Option.isSome_iff_exists.mp (claimForm_isSome.mpr h)
    exact ⟨q, by rw [decodeClaim, if_neg (by omega)]; exact ofLength_ok.mpr ⟨hl, hq⟩⟩

/-- R165: the fields of SET. -/
theorem setFields_isSome {r : List Byte} :
    (match pairListAt r 6 (byteAt r 5) with
      | some qs => some (SetParams.mk (handleAt r 3) qs)
      | none => none).isSome = true ↔ RequestCode.formHolds .set r := by
  rw [RequestCode.formHolds, ← pairListAt_isSome, byteAt_eq_octet]
  cases pairListAt r 6 (octet r 5) <;> simp

theorem decodeSet_judges : Judges decodeSet (RequestCode.lengthHolds .set) (RequestCode.formHolds .set) where
  badLength r h := by
    unfold decodeSet
    split
    · rfl
    · exact ofLength_badLength fun hl => h ⟨by omega, hl⟩
  badValue r hl h := by
    obtain ⟨hlong, hl⟩ := hl
    rw [decodeSet, if_neg (by omega)]
    exact ofLength_badValue hl fun hs => h (setFields_isSome.mp hs)
  passes r hl h := by
    obtain ⟨hlong, hl⟩ := hl
    obtain ⟨q, hq⟩ := Option.isSome_iff_exists.mp (setFields_isSome.mpr h)
    exact ⟨q, by rw [decodeSet, if_neg (by omega)]; exact ofLength_ok.mpr ⟨hl, hq⟩⟩

theorem decodeSetIf_judges : Judges decodeSetIf (RequestCode.lengthHolds .setIf) (RequestCode.formHolds .setIf) := by
  refine judges_ofLength fun r => ?_
  simp only [RequestCode.formHolds, ← chanOf_isSome, byteAt_eq_octet, wordAt_eq_octets, Config.maxValue]
  cases chanOf (octet r 5) <;> simp

theorem decodeRenew_judges : Judges decodeRenew (RequestCode.lengthHolds .renew) (RequestCode.formHolds .renew) where
  badLength r h := by
    obtain ⟨hshort, hlong⟩ := not_or.mp h
    rw [decodeRenew, if_neg hshort]
    exact ofLength_badLength hlong
  badValue r hl h := by
    obtain ⟨hlong, hzero⟩ := Classical.not_imp.mp h
    rw [decodeRenew, if_neg (by omega), wordAt_eq_octets]
    exact ofLength_badValue hlong (by simp only [if_neg hzero]; simp)
  passes r hl h := by
    rcases hl with hshort | hlong
    · exact ⟨_, by rw [decodeRenew, if_pos hshort]⟩
    · refine ⟨⟨handleAt r 3, r.getD 5 0#8, some (octets r 6)⟩, ?_⟩
      rw [decodeRenew, if_neg (by omega), wordAt_eq_octets, if_pos (h hlong)]
      exact ofLength_ok.mpr ⟨hlong, rfl⟩

theorem decodeProfileRead_judges : Judges decodeProfileRead (RequestCode.lengthHolds .profileRead)
    (RequestCode.formHolds .profileRead) := by
  refine judges_ofLength fun r => ?_
  simp only [RequestCode.formHolds, ← chanOf_isSome, ← sourceOf_isSome, byteAt_eq_octet]
  cases sourceOf (octet r 3) <;> cases chanOf (octet r 5) <;> simp

theorem decodeProfileStage_judges : Judges decodeProfileStage (RequestCode.lengthHolds .profileStage)
    (RequestCode.formHolds .profileStage) := by
  refine judges_ofLength fun r => ?_
  simp only [RequestCode.formHolds, ← chanOf_isSome, byteAt_eq_octet]
  cases chanOf (octet r 4) <;> simp

/-! ## The parameters (R165) -/

theorem decodeOpen_ok {r : List Byte} {q : OpenParams} (h : decodeOpen r = .ok q) :
    q.role = (if octet r 3 = 0 then .control else .maintenance) ∧ q.tag.toNat = octets r 4 ∧ q.interval = octets r 6
      ∧ 10 ≤ q.interval := by
  obtain ⟨hl, hf⟩ := ofLength_ok.mp h
  rw [byteAt_eq_octet, wordAt_eq_octets, wordAt_eq_octets] at hf
  split at hf
  next role hrole =>
    obtain ⟨hten, hq⟩ := Option.ite_none_right_eq_some.mp hf
    obtain rfl := Option.some.inj hq
    exact ⟨roleOf_some hrole, Nat.mod_eq_of_lt (octets_lt r 4), rfl, hten⟩
  next => cases hf

theorem decodeClaim_ok {r : List Byte} {q : ClaimParams} (h : decodeClaim r = .ok q) :
    (q.priority = octet r 3 ∧ q.disposition = (if octet r 4 = 0 then .immediate else .standby) ∧ q.lease = octets r 5
      ∧ q.tag.map BitVec.toNat = (if octet r 7 = 0 then none else some (octets r 8))
      ∧ pairsRead r 11 (octet r 10) q.pairs)
    ∧ q.priority ≤ 15 ∧ 1 ≤ q.lease ∧ 1 ≤ q.pairs.length ∧ q.pairs.length ≤ 8 ∧ (q.pairs.map Pair.chan).Nodup
      ∧ ∀ pr ∈ q.pairs, pr.value ≤ 1023 := by
  unfold decodeClaim at h
  split at h
  · cases h
  · obtain ⟨hl, hf⟩ := ofLength_ok.mp h
    unfold claimForm at hf
    simp only [byteAt_eq_octet, wordAt_eq_octets] at hf
    split at hf
    next d tag qs hd htag hqs =>
      obtain ⟨⟨hprio, hlease⟩, hq⟩ := Option.ite_none_right_eq_some.mp hf
      obtain rfl := Option.some.inj hq
      obtain ⟨hread, hone, height, hnodup, hle⟩ := pairListAt_some hqs
      have hlen := pairsRead_length hread
      exact ⟨⟨rfl, dispositionOf_some hd, rfl, claimTagAt_some htag, hread⟩, hprio, hlease, by simpa [hlen] using hone,
        by simpa [hlen] using height, hnodup, hle⟩
    next => cases hf

theorem decodeSet_ok {r : List Byte} {q : SetParams} (h : decodeSet r = .ok q) :
    q.handle = ⟨r.getD 3 0#8, r.getD 4 0#8⟩ ∧ pairsRead r 6 (octet r 5) q.pairs
      ∧ (q.pairs.map Pair.chan).Nodup ∧ ∀ pr ∈ q.pairs, pr.value ≤ 1023 := by
  unfold decodeSet at h
  split at h
  · cases h
  · obtain ⟨hl, hf⟩ := ofLength_ok.mp h
    split at hf
    next qs hqs =>
      obtain rfl := Option.some.inj hf
      obtain ⟨hread, -, -, hnodup, hle⟩ := pairListAt_some hqs
      exact ⟨rfl, hread, hnodup, hle⟩
    next => cases hf

theorem decodeSetIf_ok {r : List Byte} {q : SetIfParams} (h : decodeSetIf r = .ok q) :
    q.handle = ⟨r.getD 3 0#8, r.getD 4 0#8⟩ ∧ q.chan.val = octet r 5 ∧ q.expected = octets r 6 ∧ q.value = octets r 8
      ∧ q.value ≤ 1023 := by
  obtain ⟨hl, hf⟩ := ofLength_ok.mp h
  simp only [byteAt_eq_octet, wordAt_eq_octets] at hf
  split at hf
  next c hc =>
    obtain ⟨⟨-, hv⟩, hq⟩ := Option.ite_none_right_eq_some.mp hf
    obtain rfl := Option.some.inj hq
    exact ⟨rfl, chanOf_eq_some.mp hc, rfl, rfl, hv⟩
  next => cases hf

theorem decodeRenew_ok {r : List Byte} {q : RenewParams} (h : decodeRenew r = .ok q) :
    q.handle = ⟨r.getD 3 0#8, r.getD 4 0#8⟩ ∧ q.epoch = r.getD 5 0#8
      ∧ q.newLength = (if r.length = 8 then some (octets r 6) else none)
      ∧ ∀ l ∈ q.newLength, 1 ≤ l ∧ l ≤ 65535 := by
  unfold decodeRenew at h
  split at h
  next hshort =>
    cases h
    exact ⟨rfl, rfl, by simp [hshort], by simp⟩
  next =>
    obtain ⟨hl, hf⟩ := ofLength_ok.mp h
    rw [wordAt_eq_octets] at hf
    obtain ⟨hone, hq⟩ := Option.ite_none_right_eq_some.mp hf
    obtain rfl := Option.some.inj hq
    refine ⟨rfl, rfl, by simp [hl], fun l hmem => ?_⟩
    obtain rfl : octets r 6 = l := by simpa using hmem
    exact ⟨hone, Nat.le_of_lt_succ (octets_lt r 6)⟩

theorem decodeHandle_ok {r : List Byte} {h : WireHandle} (hd : decodeHandle r = .ok h) :
    h = ⟨r.getD 3 0#8, r.getD 4 0#8⟩ := (Option.some.inj (ofLength_ok.mp hd).2).symm

theorem decodeTransfer_ok {r : List Byte} {q : TransferParams} (h : decodeTransfer r = .ok q) :
    q.handle = ⟨r.getD 3 0#8, r.getD 4 0#8⟩ ∧ q.epoch = r.getD 5 0#8
      ∧ q.target = ⟨r.getD 6 0#8, r.getD 7 0#8⟩ := by
  obtain rfl := Option.some.inj (ofLength_ok.mp h).2
  exact ⟨rfl, rfl, rfl⟩

theorem decodeChannel_ok {r : List Byte} {c : Chan} (h : decodeChannel r = .ok c) : c.val = octet r 3 :=
  chanOf_eq_some.mp (ofLength_ok.mp h).2

theorem decodeProfileRead_ok {r : List Byte} {q : ProfileReadParams} (h : decodeProfileRead r = .ok q) :
    q.source = (if octet r 3 = 0 then .active else .staging) ∧ q.fieldId = octet r 4 ∧ q.chan.val = octet r 5 := by
  obtain ⟨hl, hf⟩ := ofLength_ok.mp h
  split at hf
  next src c hsrc hc =>
    obtain rfl := Option.some.inj hf
    exact ⟨sourceOf_some hsrc, rfl, chanOf_eq_some.mp hc⟩
  next => cases hf

theorem decodeProfileStage_ok {r : List Byte} {q : ProfileStageParams} (h : decodeProfileStage r = .ok q) :
    q.fieldId = octet r 3 ∧ q.chan.val = octet r 4 ∧ q.value = octets r 5 := by
  obtain ⟨hl, hf⟩ := ofLength_ok.mp h
  rw [wordAt_eq_octets] at hf
  split at hf
  next c hc =>
    obtain rfl := Option.some.inj hf
    exact ⟨rfl, chanOf_eq_some.mp hc, rfl⟩
  next => cases hf

/-! ## The refusal of a form -/

theorem refusalOf_eq_some {α : Type} {e : Except Result α} {why : Result} :
    refusalOf e = some why ↔ e = .error why := by cases e <;> simp [refusalOf]

theorem refusalOf_eq_none {α : Type} {e : Except Result α} : refusalOf e = none ↔ ∃ a, e = .ok a := by
  cases e <;> simp [refusalOf]

/-- R163 steps 2 and 3, as a decoder that answers nothing but the refusal. -/
theorem Judges.refusal {α : Type} {decode : List Byte → Except Result α} {length form : List Byte → Prop}
    (h : Judges decode length form) (r : List Byte) :
    (¬ length r → refusalOf (decode r) = some .badLength)
      ∧ (length r → ¬ form r → refusalOf (decode r) = some .badValue)
      ∧ (length r → form r → refusalOf (decode r) = none) :=
  ⟨fun hl => refusalOf_eq_some.mpr (h.badLength r hl), fun hl hf => refusalOf_eq_some.mpr (h.badValue r hl hf),
    fun hl hf => refusalOf_eq_none.mpr (h.passes r hl hf)⟩

/-- R163 to R166: the refusal of a request's form is by its length, then by its fields. -/
theorem formRefusal_spec (k : RequestCode) (r : List Byte) :
    (¬ RequestCode.lengthHolds k r → RequestCode.formRefusal k r = some .badLength)
      ∧ (RequestCode.lengthHolds k r → ¬ RequestCode.formHolds k r → RequestCode.formRefusal k r = some .badValue)
      ∧ (RequestCode.lengthHolds k r → RequestCode.formHolds k r → RequestCode.formRefusal k r = none) := by
  cases k with
  | openSession => exact decodeOpen_judges.refusal r
  | closeSession | keepalive | fetch | queryDevice | resume | profileCommit | profileDiscard =>
    exact decodeNone_judges.refusal r
  | claim => exact decodeClaim_judges.refusal r
  | set => exact decodeSet_judges.refusal r
  | setIf => exact decodeSetIf_judges.refusal r
  | renew => exact decodeRenew_judges.refusal r
  | release | revoke | queryClaim => exact decodeHandle_judges.refusal r
  | transfer => exact decodeTransfer_judges.refusal r
  | queryChannel | clearFault => exact decodeChannel_judges.refusal r
  | profileRead => exact decodeProfileRead_judges.refusal r
  | profileStage => exact decodeProfileStage_judges.refusal r

/-- R163: a request refused for its form is answered so by its command, and nothing else changes. -/
theorem exec_formRefused {s : State} {p : PortId} {k : RequestCode} {r : List Byte} {why : Result}
    (hr : s.requestOf p k.byte = some r) (hf : RequestCode.formRefusal k r = some why) :
    exec (RequestCode.command p k) s = .next (s.answer p k.byte (refuse why)) := by
  cases k with
  | openSession =>
    have hd := refusalOf_eq_some.mp hf
    simp [RequestCode.command, exec, execOpenSession, State.serveOpen, hr, hd]
  | queryDevice =>
    have hreading := (State.requestAt_eq_some.mp (State.requestOf_eq_some.mp hr).1).2.2
    have hd := refusalOf_eq_some.mp hf
    simp [RequestCode.command, exec, execQueryDevice, hreading, State.commonChecks_formRefused hr hd]
  | _ => exact congrArg Host.Outcome.next (State.serve_formRefused hr (refusalOf_eq_some.mp hf))

/-- R163 step 1. -/
theorem exec_unknownRequest {s : State} {p : PortId} {r : List Byte} (hr : s.requestAt p = some r)
    (hk : RequestCode.ofByte (r.getD 0 0#8) = none) :
    exec (.unknownRequest p) s = .next (s.answer p (r.getD 0 0#8) (refuse .unknownRequest)) := by
  simp only [exec, execUnknownRequest, hr, hk]

/-- Settles O18: a form is refused as `formRefusal_spec` says, the refusal is all that its command does, and the decoders
read the parameters where R165 has them. -/
theorem formRefusalReachesNoSession : Obligations.FormRefusalReachesNoSession := by
  unfold Obligations.FormRefusalReachesNoSession
  refine ⟨fun s p r hr hk => ⟨_, exec_unknownRequest hr hk, rfl, rfl⟩, ?forms, fun r => ?_⟩
  case forms =>
    intro s p k r hr refusedWith
    obtain ⟨hlength, hvalue, hnone⟩ := formRefusal_spec k r
    have hrefused : ∀ why, RequestCode.formRefusal k r = some why →
        RequestCode.formRefusal k r = some why ∧ refusedWith why :=
      fun why hf => ⟨hf, _, exec_formRefused hr hf, rfl, rfl⟩
    exact ⟨fun hl => hrefused _ (hlength hl), fun hl hf => hrefused _ (hvalue hl hf), hnone⟩
  refine ⟨fun q h => ?_, fun q h => (decodeClaim_ok h).1, fun q h => ?_, fun q h => ?_, fun q h => ?_,
    fun h hd => decodeHandle_ok hd, fun q h => decodeTransfer_ok h, fun c h => decodeChannel_ok h,
    fun q h => decodeProfileRead_ok h, fun q h => decodeProfileStage_ok h⟩
  · obtain ⟨hrole, htag, hinterval, -⟩ := decodeOpen_ok h
    exact ⟨hrole, htag, hinterval⟩
  · obtain ⟨hhandle, hpairs, -⟩ := decodeSet_ok h
    exact ⟨hhandle, hpairs⟩
  · obtain ⟨hhandle, hchan, hexpected, hvalue, -⟩ := decodeSetIf_ok h
    exact ⟨hhandle, hchan, hexpected, hvalue⟩
  · obtain ⟨hhandle, hepoch, hlength, -⟩ := decodeRenew_ok h
    exact ⟨hhandle, hepoch, hlength⟩

end Sys2Proof.Machine
end

section
/-! PROOFS. The ways a command changes the claim table, and what each of them keeps: the holder stacks (R5, R6), the
ranges of the records (R1, R30), and the absence of LIVE records (R125). -/

-- The whole text compiles close to the check's memory limit, so this part starts no threads of its own.
set_option Elab.async false

namespace Sys2Proof.Machine

/-! ## One record -/

theorem ClaimTable.live?_eq_some {t : ClaimTable} {i : RecIdx} {b : ClaimBody} :
    t.live? i = some b ↔ (t.recs.get i).state = .live b := by
  unfold ClaimTable.live?
  cases (t.recs.get i).state <;> simp

theorem ClaimTable.isFree_iff {t : ClaimTable} {i : RecIdx} : t.isFree i = true ↔ (t.recs.get i).state = .free := by
  unfold ClaimTable.isFree ClaimTable.body? ClaimState.body?
  cases (t.recs.get i).state <;> simp

/-- The rules read a record through its state. -/
theorem ClaimTable.live?_congr {t u : ClaimTable} {i : RecIdx} (h : u.recs.get i = t.recs.get i) :
    u.live? i = t.live? i := by rw [ClaimTable.live?, h]; rfl

theorem ClaimTable.body?_congr {t u : ClaimTable} {i : RecIdx} (h : u.recs.get i = t.recs.get i) :
    u.body? i = t.body? i := by rw [ClaimTable.body?, h]; rfl

theorem ClaimTable.priority_congr {t u : ClaimTable} {i : RecIdx} (h : u.recs.get i = t.recs.get i) :
    u.priority i = t.priority i := by rw [ClaimTable.priority, ClaimTable.body?_congr h]; rfl

theorem ClaimTable.listsLive_congr {t u : ClaimTable} {i : RecIdx} (c : Chan) (h : u.recs.get i = t.recs.get i) :
    u.listsLive c i = t.listsLive c i := by rw [ClaimTable.listsLive, ClaimTable.live?_congr h]; rfl

theorem ClaimTable.priority_of_body? {t : ClaimTable} {i : RecIdx} {b : ClaimBody} (h : t.body? i = some b) :
    t.priority i = b.priority := by simp [ClaimTable.priority, h]

theorem ClaimTable.listsLive_of_live? {t : ClaimTable} {i : RecIdx} {b : ClaimBody} (h : t.live? i = some b)
    (c : Chan) : t.listsLive c i = true ↔ c ∈ b.chans := by simp [ClaimTable.listsLive, h]

theorem ClaimTable.listsLive_of_not_live {t : ClaimTable} {i : RecIdx} (h : t.live? i = none) (c : Chan) :
    t.listsLive c i = false := by simp [ClaimTable.listsLive, h]

theorem ClaimTable.setState_self (t : ClaimTable) (i : RecIdx) (st : ClaimState) :
    ((t.setState i st).recs.get i).state = st := by simp [ClaimTable.setState_recs]

theorem ClaimTable.setState_other (t : ClaimTable) {i j : RecIdx} (st : ClaimState) (h : j ≠ i) :
    (t.setState i st).recs.get j = t.recs.get j := by simp [ClaimTable.setState_recs, h]

/-! ## The check of a claim handle (R3) -/

theorem ClaimTable.liveFor_eq_ok {t : ClaimTable} {h : WireHandle} {mustOwn : Bool} {who : SessionId} {i : RecIdx}
    {b : ClaimBody} (hl : t.liveFor h mustOwn who = .ok (i, b)) :
    t.live? i = some b ∧ (mustOwn = true → b.owner = who) := by
  unfold ClaimTable.liveFor at hl
  split at hl
  · cases hl
  · split at hl
    · cases hl
    next b' hb =>
      split at hl
      · cases hl
      next hown =>
        cases hl
        exact ⟨hb, fun hm => by_contra fun hne => hown ⟨hm, hne⟩⟩

theorem ClaimTable.ownedFor_eq_ok {t : ClaimTable} {h : WireHandle} {who : SessionId} {i : RecIdx} {b : ClaimBody}
    (ho : t.ownedFor h who = .ok (i, b)) : t.body? i = some b ∧ b.owner = who := by
  unfold ClaimTable.ownedFor at ho
  split at ho
  · cases ho
  · split at ho
    · cases ho
    next b' hb =>
      split at ho
      · cases ho
      next hown => cases ho; exact ⟨hb, by_contra hown⟩

/-! ## The ways the claim table changes -/

/-- R31, R33, R34: the claim table after its tick: every LIVE record decremented, and those at 0 retired. -/
def ClaimTable.ticked (t : ClaimTable) : ClaimTable :=
  let counted : ClaimTable := { t with recs := t.recs.map (·.leaseTick) }
  counted.runOut.foldl (ClaimTable.retire .expired) counted

/-- One change of the claim table by a command. `mayGrant` holds where the command may grant a claim. -/
inductive ClaimChange (mayGrant : Prop) : ClaimTable → ClaimTable → Prop
  /-- R2 -/
  | free (t : ClaimTable) (i : RecIdx) : ClaimChange mayGrant t (t.free i)
  /-- R23 -/
  | retire (t : ClaimTable) (i : RecIdx) (why : RetireReason) : ClaimChange mayGrant t (t.retire why i)
  /-- R17, R18, R21, R37: a LIVE record's fields changed, its priority and its channels kept -/
  | rewrite {t : ClaimTable} {i : RecIdx} {b b' : ClaimBody} (hlive : t.live? i = some b)
      (hpriority : b'.priority = b.priority) (hchans : b'.chans = b.chans)
      (hrange : b.inRange → 1 ≤ b.remaining → b'.inRange ∧ 1 ≤ b'.remaining) :
      ClaimChange mayGrant t (t.setState i (.live b'))
  /-- R13 -/
  | grant {t : ClaimTable} {i : RecIdx} {b : ClaimBody} (hmay : mayGrant) (hfree : t.isFree i = true) (hrange : b.inRange)
      (hremaining : 1 ≤ b.remaining)
      (hroom : ∀ c ∈ b.chans, (t.holders.get c).length < Config.stackDepth
        ∧ ∀ j ∈ t.holders.get c, t.priority j ≠ b.priority) : ClaimChange mayGrant t (t.grant i b)
  /-- R31, R33 -/
  | tick (t : ClaimTable) : ClaimChange mayGrant t t.ticked

/-- Any number of changes, one after the other. -/
abbrev ClaimChanges (mayGrant : Prop) : ClaimTable → ClaimTable → Prop := Relation.ReflTransGen (ClaimChange mayGrant)

theorem claimChanges_freeAll (mayGrant : Prop) (is : List RecIdx) (t : ClaimTable) :
    ClaimChanges mayGrant t (is.foldl ClaimTable.free t) := by
  induction is generalizing t with
  | nil => exact .refl
  | cons i is ih => exact .head (.free t i) (ih _)

theorem claimChanges_retireAll (mayGrant : Prop) (why : RetireReason) (is : List RecIdx) (t : ClaimTable) :
    ClaimChanges mayGrant t (is.foldl (ClaimTable.retire why) t) := by
  induction is generalizing t with
  | nil => exact .refl
  | cons i is ih => exact .head (.retire t i why) (ih _)

/-! ## Each owner -/

/-- R122, R125: the supervisor state in which a claim may be granted (R11 check 1). -/
def State.mayGrant (s : State) : Prop := ¬ (s.supervisor.state = .starting ∨ s.supervisor.state = .lapsed)

theorem ClaimTable.lowestFree_isFree {t : ClaimTable} {i : RecIdx} (h : t.lowestFree = some i) : t.isFree i = true :=
  List.find?_some h

/-- R11: with no check failing, the supervisor counts ticks. -/
theorem claimDeviceRefusal_eq_none {s : State} {who : Requester} {q : ClaimParams}
    (h : claimDeviceRefusal s who q = none) : s.mayGrant := by
  unfold claimDeviceRefusal at h
  split at h
  · cases h
  next hm => exact hm

/-- R12: with no check failing on any pair, every listed stack has room and none holds the priority. -/
theorem claimPairsRefusal_eq_none {s : State} {q : ClaimParams} (h : claimPairsRefusal s q = none) :
    ∀ c ∈ q.pairs.map Pair.chan, (s.claims.holders.get c).length < Config.stackDepth
      ∧ ∀ j ∈ s.claims.holders.get c, s.claims.priority j ≠ q.priority := by
  intro c hc
  obtain ⟨pr, hpr, rfl⟩ := List.mem_map.mp hc
  have hnone : claimPairRefusal s q pr = none := by
    have := List.findSome?_eq_none_iff.mp h pr hpr
    simpa using this
  unfold claimPairRefusal at hnone
  split at hnone
  · cases hnone
  split at hnone
  · cases hnone
  split at hnone
  · cases hnone
  next htaken =>
    split at hnone
    · cases hnone
    next hroom => exact ⟨by omega, fun j hj he => htaken (List.any_eq_true.mpr ⟨j, hj, by simpa using he⟩)⟩

/-- R11 to R13: CLAIM with parameters of their form (R166). -/
theorem ownClaim_claimChanges (s : State) (who : Requester) {r : List Byte} {q : ClaimParams}
    (hd : decodeClaim r = .ok q) : ClaimChanges s.mayGrant s.claims (ownClaim s who q).1.claims := by
  obtain ⟨⟨-, -, hlease, -, -⟩, hpriority, hone, hfew, hmany, hnodup, hvalues⟩ := decodeClaim_ok hd
  have hshort := octets_lt r 5
  unfold ownClaim
  split
  · exact .refl
  next hdevice =>
    split
    · exact .refl
    next hpairs =>
      split
      · exact .refl
      next i hi =>
        refine .single (.grant (claimDeviceRefusal_eq_none hdevice) (ClaimTable.lowestFree_isFree hi) ?_ hone
          (claimPairsRefusal_eq_none hpairs))
        exact ⟨hpriority, hfew, hmany, hnodup, hvalues, hone, by simp only [grantedBody]; omega, le_refl _⟩

theorem storeValues_chans (news pairs : List Pair) : (storeValues news pairs).map Pair.chan = pairs.map Pair.chan := by
  rw [storeValues, List.map_map]
  refine List.map_congr_left fun q _ => ?_
  simp only [Function.comp]
  cases hn : news.find? fun n => n.chan == q.chan with
  | none => rfl
  | some n => simpa using List.find?_some hn

theorem storeValues_value_le {news pairs : List Pair} {v : Nat} (hnews : ∀ q ∈ news, q.value ≤ v)
    (hpairs : ∀ q ∈ pairs, q.value ≤ v) : ∀ q ∈ storeValues news pairs, q.value ≤ v := by
  intro q hq
  obtain ⟨q', hq', rfl⟩ := List.mem_map.mp hq
  cases hn : news.find? fun n => n.chan == q'.chan with
  | none => exact hpairs q' hq'
  | some n => exact hnews n (List.mem_of_find?_eq_some hn)

/-- R17, R18: values stored in a LIVE record. -/
theorem storeAndReport_claimChanges (s : State) {i : RecIdx} {b : ClaimBody} {news : List Pair} (mayGrant : Prop)
    (hlive : s.claims.live? i = some b) (hnews : ∀ q ∈ news, q.value ≤ Config.maxValue) :
    ClaimChanges mayGrant s.claims (s.storeAndReport i b news).claims := by
  refine .single (.rewrite hlive rfl (storeValues_chans news b.pairs) fun hrange hremaining => ⟨?_, hremaining⟩)
  obtain ⟨hpriority, hfew, hmany, hnodup, hvalues, hlease⟩ := hrange
  have hlen : (storeValues news b.pairs).length = b.pairs.length := List.length_map _
  refine ⟨hpriority, hlen ▸ hfew, hlen ▸ hmany, ?_, storeValues_value_le hnews hvalues, hlease⟩
  rw [ClaimBody.chans, storeValues_chans]
  exact hnodup

theorem ownSet_claimChanges (s : State) (who : Requester) {r : List Byte} {q : SetParams} (mayGrant : Prop)
    (hd : decodeSet r = .ok q) : ClaimChanges mayGrant s.claims (ownSet s who q).1.claims := by
  obtain ⟨-, -, -, hvalues⟩ := decodeSet_ok hd
  unfold ownSet
  split
  · exact .refl
  next i b hb =>
    split
    · exact .refl
    · exact storeAndReport_claimChanges s mayGrant (ClaimTable.liveFor_eq_ok hb).1 hvalues

theorem ownSetIf_claimChanges (s : State) (who : Requester) {r : List Byte} {q : SetIfParams} (mayGrant : Prop)
    (hd : decodeSetIf r = .ok q) : ClaimChanges mayGrant s.claims (ownSetIf s who q).1.claims := by
  obtain ⟨-, -, -, -, hvalue⟩ := decodeSetIf_ok hd
  unfold ownSetIf
  split
  · exact .refl
  next i b hb =>
    split
    · exact .refl
    · split
      · exact storeAndReport_claimChanges s mayGrant (ClaimTable.liveFor_eq_ok hb).1 (by simpa [Config.maxValue] using hvalue)
      · exact .refl

theorem ClaimBody.renewed_inRange {b : ClaimBody} {newLength : Option Nat} (h : b.inRange)
    (hl : ∀ l ∈ newLength, 1 ≤ l ∧ l ≤ 65535) : (b.renewed newLength).inRange ∧ 1 ≤ (b.renewed newLength).remaining := by
  obtain ⟨hpriority, hfew, hmany, hnodup, hvalues, hlease, hlong, -⟩ := h
  have hlength : 1 ≤ newLength.getD b.leaseLength ∧ newLength.getD b.leaseLength ≤ 65535 := by
    cases newLength with
    | none => exact ⟨hlease, hlong⟩
    | some l => exact hl l rfl
  exact ⟨⟨hpriority, hfew, hmany, hnodup, hvalues, hlength.1, hlength.2, le_refl _⟩, hlength.1⟩

theorem ownRenew_claimChanges (s : State) (who : Requester) {r : List Byte} {q : RenewParams} (mayGrant : Prop)
    (hd : decodeRenew r = .ok q) : ClaimChanges mayGrant s.claims (ownRenew s who q).1.claims := by
  obtain ⟨-, -, -, hlength⟩ := decodeRenew_ok hd
  unfold ownRenew
  split
  · exact .refl
  next i b hb =>
    split
    · exact .refl
    · exact .single (.rewrite (ClaimTable.liveFor_eq_ok hb).1 rfl rfl fun hrange _ =>
        ClaimBody.renewed_inRange hrange hlength)

theorem ownRelease_claimChanges (s : State) (who : Requester) (h : WireHandle) (mayGrant : Prop) :
    ClaimChanges mayGrant s.claims (ownRelease s who h).1.claims := by
  unfold ownRelease
  split
  · exact .refl
  · exact .single (.free _ _)

theorem ownTransfer_claimChanges (s : State) (who : Requester) (q : TransferParams) (mayGrant : Prop) :
    ClaimChanges mayGrant s.claims (ownTransfer s who q).1.claims := by
  unfold ownTransfer
  split
  · exact .refl
  next i b hb =>
    split
    · exact .refl
    · split
      · exact .refl
      · repeat' split
        · exact .refl
        · exact .refl
        · exact .refl
        · exact .single (.rewrite (ClaimTable.liveFor_eq_ok hb).1 rfl rfl fun hrange hremaining => ⟨hrange, hremaining⟩)

theorem ownRevoke_claimChanges (s : State) (who : Requester) (h : WireHandle) (mayGrant : Prop) :
    ClaimChanges mayGrant s.claims (ownRevoke s who h).1.claims := by
  unfold ownRevoke
  split
  · exact .refl
  · exact .single (.retire _ _ .revoked)

theorem ownFetch_claimChanges (s : State) (who : Requester) (q : Unit) (mayGrant : Prop) :
    ClaimChanges mayGrant s.claims (ownFetch s who q).1.claims := by
  unfold ownFetch
  split
  · exact .refl
  next e rest he =>
    show ClaimChanges mayGrant s.claims (s.claims.freeFetched e)
    unfold ClaimTable.freeFetched
    split
    · split
      · exact .single (.free _ _)
      · exact .refl
      · exact .refl
    · exact .refl

theorem endSession_claimChanges (s : State) (slot : Slot) (info : SessionInfo) (lapses : Bool) (mayGrant : Prop) :
    ClaimChanges mayGrant s.claims (s.endSession slot info lapses).claims :=
  claimChanges_freeAll mayGrant _ _

/-! ## Ticks -/

theorem lapseSessions_claimChanges (s : State) (mayGrant : Prop) :
    ClaimChanges mayGrant s.claims s.lapseSessions.claims := by
  have hslot : ∀ (u : State) (slot : Slot), ClaimChanges mayGrant u.claims (u.lapseSlot slot).claims := by
    intro u slot
    unfold State.lapseSlot
    split
    · split
      · exact endSession_claimChanges u slot _ true mayGrant
      · exact .refl
    · exact .refl
  have hall : ∀ (slots : List Slot) (u : State),
      ClaimChanges mayGrant u.claims (slots.foldl State.lapseSlot u).claims := by
    intro slots
    induction slots with
    | nil => exact fun _ => .refl
    | cons slot slots ih => exact fun u => (hslot u slot).trans (ih _)
  exact hall _ s

theorem expire_claimChanges (s : State) (mayGrant : Prop) : ClaimChanges mayGrant s.claims s.expire.claims :=
  claimChanges_retireAll mayGrant .expired _ _

theorem lapseIfOut_claimChanges (s : State) (mayGrant : Prop) : ClaimChanges mayGrant s.claims s.lapseIfOut.claims := by
  unfold State.lapseIfOut
  split
  · exact claimChanges_retireAll mayGrant .swept _ _
  · exact .refl

theorem blockTick_claimChanges (s : State) (b : TickTaker) (mayGrant : Prop) :
    ClaimChanges mayGrant s.claims (s.blockTick b).claims := by
  cases b with
  | claimTable => exact .single (.tick s.claims)
  | sessionTable => exact lapseSessions_claimChanges s.decrementKeepalives mayGrant
  | supervisor => exact lapseIfOut_claimChanges s.decrementHoldover mayGrant
  | outputStage | readbackMonitor => rw [State.blockTick]; simpa using .refl

theorem takeTick_claimChanges (s : State) (b : TickTaker) (mayGrant : Prop) :
    ClaimChanges mayGrant s.claims (s.takeTick b).claims :=
  State.takeTick_keeps (P := fun u => ClaimChanges mayGrant s.claims u.claims) (fun _ _ hu => hu)
    (fun u hu => hu.trans (blockTick_claimChanges u b mayGrant)) .refl

/-! ## Every command -/

/-- A request whose owner changes the claim table so. The owner is handed parameters that its decoder gave. -/
theorem serve_claimChanges {α : Type} {s t : State} {p : PortId} {code : RequestCode}
    {decode : List Byte → Except Result α} {maintenanceOnly : Bool} {owner : State → Requester → α → State × Reply}
    (howner : ∀ (u : State) (who : Requester) (r : List Byte) (q : α), decode r = .ok q →
      ClaimChanges u.mayGrant u.claims (owner u who q).1.claims)
    (hx : (.next (s.serve p code decode maintenanceOnly owner) : Host.Outcome State Fault Refusal) = .next t) :
    ClaimChanges s.mayGrant s.claims t.claims := by
  obtain rfl := Host.Outcome.next.inj hx
  rcases s.serve_cases p code decode maintenanceOnly owner with
    hs | ⟨r, t, why, -, -, hs⟩ | ⟨r, slot, info, q, -, hd, -, hs⟩
  · rw [hs]
  · rw [hs]; exact .refl
  · rw [hs]; exact howner { s with sessions := s.sessions.reload slot } _ r q hd

/-- Every command but a device reset changes the claim table by the changes named, and grants a claim only where the
supervisor counts ticks. -/
theorem exec_claimChanges {i : Instr} {s t : State} (hreset : ∀ reached flaws, i ≠ .deviceReset reached flaws)
    (hx : exec i s = .next t) : ClaimChanges s.mayGrant s.claims t.claims := by
  cases i with
  | deviceReset reached flaws => exact absurd rfl (hreset reached flaws)
  | claim p => exact serve_claimChanges (fun u who r q hd => ownClaim_claimChanges u who hd) hx
  | set p => exact serve_claimChanges (fun u who r q hd => ownSet_claimChanges u who _ hd) hx
  | setIf p => exact serve_claimChanges (fun u who r q hd => ownSetIf_claimChanges u who _ hd) hx
  | renew p => exact serve_claimChanges (fun u who r q hd => ownRenew_claimChanges u who _ hd) hx
  | release p => exact serve_claimChanges (fun u who r q _ => ownRelease_claimChanges u who q _) hx
  | transfer p => exact serve_claimChanges (fun u who r q _ => ownTransfer_claimChanges u who q _) hx
  | revoke p => exact serve_claimChanges (fun u who r q _ => ownRevoke_claimChanges u who q _) hx
  | fetch p => exact serve_claimChanges (fun u who r q _ => ownFetch_claimChanges u who q _) hx
  | closeSession p =>
    exact serve_claimChanges (fun u who r q _ => endSession_claimChanges u who.slot who.info false _) hx
  | tick takers =>
    exact execTick_keeps (P := fun u => ClaimChanges s.mayGrant s.claims u.claims) (fun _ hu => hu)
      (fun u b hu => hu.trans (takeTick_claimChanges u b _)) .refl hx
  | leaseExpiry =>
    obtain rfl := Host.Outcome.next.inj hx
    exact (takeTick_claimChanges s .claimTable _).trans (expire_claimChanges _ _)
  | sessionLapse =>
    obtain rfl := Host.Outcome.next.inj hx
    exact (takeTick_claimChanges s .sessionTable _).trans (lapseSessions_claimChanges _ _)
  | lapsedEntry =>
    obtain rfl := Host.Outcome.next.inj hx
    exact (takeTick_claimChanges s .supervisor _).trans (lapseIfOut_claimChanges _ _)
  | _ => rw [exec_claims rfl hx]

/-! ## What the changes keep -/

/-- A rule that each change keeps is kept by any number of them. -/
theorem ClaimChanges.keep {mayGrant : Prop} {P : ClaimTable → Prop}
    (h : ∀ t u, ClaimChange mayGrant t u → P t → P u) {t u : ClaimTable} (hc : ClaimChanges mayGrant t u) (ht : P t) :
    P u := by
  induction hc with
  | refl => exact ht
  | tail _ hlast ih => exact h _ _ hlast ih

/-! ### The holder stacks (R5, R6) -/

/-- R5, R6: the rule reads the stack, and of each record its priority and the channels it lists. -/
theorem ClaimTable.stackSound_of_agree {t u : ClaimTable} {c : Chan} (hh : u.holders.get c = t.holders.get c)
    (hp : ∀ i, u.priority i = t.priority i) (hl : ∀ i, u.listsLive c i = t.listsLive c i) (h : t.stackSound c) :
    u.stackSound c := by
  unfold ClaimTable.stackSound at *
  simpa only [hh, hp, hl] using h

/-- R6, R7: a record that is LIVE no more leaves its stacks, and no other record changes. -/
theorem ClaimTable.stackSound_of_erased {t u : ClaimTable} {c : Chan} {i : RecIdx}
    (hh : u.holders.get c = (t.holders.get c).erase i) (hrecs : ∀ j, j ≠ i → u.recs.get j = t.recs.get j)
    (hdead : u.live? i = none) (h : t.stackSound c) : u.stackSound c := by
  have hnodup := h.nodup
  obtain ⟨hlength, hsorted, hexact⟩ := h
  have hmem : ∀ j, j ∈ (t.holders.get c).erase i ↔ j ≠ i ∧ j ∈ t.holders.get c := fun j => hnodup.mem_erase_iff
  refine ⟨?_, ?_, fun j => ?_⟩
  · rw [hh]
    exact (List.length_erase_le ..).trans hlength
  · rw [hh]
    refine (hsorted.sublist List.erase_sublist).imp_of_mem fun {a b} ha hb hab => ?_
    rwa [ClaimTable.priority_congr (hrecs a ((hmem a).mp ha).1), ClaimTable.priority_congr (hrecs b ((hmem b).mp hb).1)]
  · rw [hh, hmem]
    by_cases hj : j = i
    · subst hj; simp [ClaimTable.listsLive_of_not_live hdead]
    · rw [ClaimTable.listsLive_congr c (hrecs j hj), hexact]
      simp [hj]

theorem ClaimTable.free_live? (t : ClaimTable) (i : RecIdx) : (t.free i).live? i = none := by
  rw [ClaimTable.live?, ClaimTable.free_recs]; simp

theorem ClaimTable.free_stackSound {t : ClaimTable} {c : Chan} (i : RecIdx) (h : t.stackSound c) :
    (t.free i).stackSound c :=
  ClaimTable.stackSound_of_erased (t.free_holders i c) (fun j hj => by simp [ClaimTable.free_recs, hj]) (t.free_live? i) h

/-- R23: a record that is not LIVE is not retired. -/
theorem ClaimTable.retire_of_not_live {t : ClaimTable} {i : RecIdx} (h : t.live? i = none) (why : RetireReason) :
    t.retire why i = t := by simp [ClaimTable.retire, h]

theorem ClaimTable.retire_of_live {t : ClaimTable} {i : RecIdx} {b : ClaimBody} (h : t.live? i = some b)
    (why : RetireReason) : t.retire why i = (t.remove i).setState i (.retired b why) := by simp [ClaimTable.retire, h]

theorem ClaimTable.retire_live? (t : ClaimTable) (why : RetireReason) (i : RecIdx) : (t.retire why i).live? i = none := by
  cases h : t.live? i with
  | none => rw [ClaimTable.retire_of_not_live h, h]
  | some b => rw [ClaimTable.retire_of_live h, ClaimTable.live?, ClaimTable.setState_self]

theorem ClaimTable.retire_other (t : ClaimTable) (why : RetireReason) {i j : RecIdx} (h : j ≠ i) :
    (t.retire why i).recs.get j = t.recs.get j := by
  rw [ClaimTable.retire_recs]
  cases t.live? i <;> simp [h]

theorem ClaimTable.retire_stackSound {t : ClaimTable} {c : Chan} (why : RetireReason) (i : RecIdx)
    (h : t.stackSound c) : (t.retire why i).stackSound c := by
  cases hl : t.live? i with
  | none => rwa [ClaimTable.retire_of_not_live hl]
  | some b =>
    refine ClaimTable.stackSound_of_erased (i := i) ?_ (fun j hj => t.retire_other why hj) (t.retire_live? why i) h
    rw [ClaimTable.retire_holders, hl]
    rfl

theorem ClaimTable.retireAll_stackSound {t : ClaimTable} {c : Chan} (why : RetireReason) (is : List RecIdx)
    (h : t.stackSound c) : (is.foldl (ClaimTable.retire why) t).stackSound c := by
  induction is generalizing t with
  | nil => exact h
  | cons i is ih => exact ih (ClaimTable.retire_stackSound why i h)

/-- R17, R21, R37: a LIVE record whose priority and channels are kept keeps its places. -/
theorem ClaimTable.rewrite_stackSound {t : ClaimTable} {c : Chan} {i : RecIdx} {b b' : ClaimBody}
    (hlive : t.live? i = some b) (hpriority : b'.priority = b.priority) (hchans : b'.chans = b.chans)
    (h : t.stackSound c) : (t.setState i (.live b')).stackSound c := by
  have hlive' : (t.setState i (.live b')).live? i = some b' :=
    ClaimTable.live?_eq_some.mpr (t.setState_self i (.live b'))
  refine ClaimTable.stackSound_of_agree (t := t) rfl (fun j => ?_) (fun j => ?_) h <;> by_cases hj : j = i
  · subst hj
    rw [ClaimTable.priority_of_body? (ClaimTable.body?_of_live? hlive'),
      ClaimTable.priority_of_body? (ClaimTable.body?_of_live? hlive), hpriority]
  · exact ClaimTable.priority_congr (t.setState_other _ hj)
  · subst hj
    rw [Bool.eq_iff_iff, ClaimTable.listsLive_of_live? hlive', ClaimTable.listsLive_of_live? hlive, hchans]
  · exact ClaimTable.listsLive_congr c (t.setState_other _ hj)

/-- R7: a record of a priority that no holder has stands below those of higher priority and above those of lower. -/
theorem insertHolder_decomposes {t : ClaimTable} (i : RecIdx) {priority : Nat} {l : List RecIdx}
    (hsorted : l.Pairwise fun i j => t.priority j < t.priority i) (hfree : ∀ j ∈ l, t.priority j ≠ priority) :
    ∃ above below, l = above ++ below ∧ insertHolder t i priority l = above ++ i :: below
      ∧ (∀ j ∈ above, priority < t.priority j) ∧ ∀ j ∈ below, t.priority j < priority := by
  refine ⟨_, _, (List.takeWhile_append_dropWhile (p := fun j => decide (priority < t.priority j))).symm,
    insertHolder_spec t i priority l, fun j hj => by simpa using List.mem_takeWhile_imp hj, fun j hj => ?_⟩
  have hdrop := List.dropWhile_sublist (l := l) fun j => decide (priority < t.priority j)
  have hne := hfree j (hdrop.mem hj)
  cases hd : l.dropWhile fun j => decide (priority < t.priority j) with
  | nil => rw [hd] at hj; cases hj
  | cons k below =>
    have hk : ¬ priority < t.priority k := by
      have := List.head_dropWhile_not (fun j => decide (priority < t.priority j)) (l := l) (by rw [hd]; simp)
      simpa [hd] using this
    rw [hd] at hj
    rcases List.mem_cons.mp hj with rfl | hj
    · omega
    · have := (List.pairwise_cons.mp (hd ▸ hsorted.sublist hdrop)).1 j hj
      omega

theorem ClaimTable.grant_self (t : ClaimTable) (i : RecIdx) (b : ClaimBody) :
    (t.grant i b).recs.get i = ⟨(t.recs.get i).gen + 1, .live b⟩ := by simp [ClaimTable.grant_recs]

theorem ClaimTable.grant_other (t : ClaimTable) {i j : RecIdx} (b : ClaimBody) (h : j ≠ i) :
    (t.grant i b).recs.get j = t.recs.get j := by simp [ClaimTable.grant_recs, h]

theorem ClaimTable.grant_live? (t : ClaimTable) (i : RecIdx) (b : ClaimBody) : (t.grant i b).live? i = some b :=
  ClaimTable.live?_eq_some.mpr (by rw [ClaimTable.grant_self])

/-- R13: a channel not listed keeps its stack. -/
theorem ClaimTable.grant_holders_other (t : ClaimTable) (i : RecIdx) {b : ClaimBody} {c : Chan} (hc : c ∉ b.chans) :
    (t.grant i b).holders.get c = t.holders.get c := by simp [ClaimTable.grant, ClaimTable.insert, hc]

/-- The record being granted stands on no stack, so its new fields move no other. -/
theorem insertHolder_congr {t u : ClaimTable} {i : RecIdx} {priority : Nat} {l : List RecIdx}
    (h : ∀ j ∈ l, t.priority j = u.priority j) : insertHolder t i priority l = insertHolder u i priority l := by
  induction l with
  | nil => rfl
  | cons j l ih =>
    rw [insertHolder, insertHolder, h j List.mem_cons_self, ih fun k hk => h k (List.mem_cons_of_mem _ hk)]

/-- R6: a FREE record is on no stack. -/
theorem ClaimTable.not_mem_of_isFree {t : ClaimTable} {c : Chan} {i : RecIdx} (h : t.stackSound c)
    (hfree : t.isFree i = true) : i ∉ t.holders.get c := by
  rw [h.2.2, ClaimTable.listsLive_of_not_live]
  · simp
  · rw [ClaimTable.live?, ClaimTable.isFree_iff.mp hfree]

/-- R7, R13: where the granted record stands. -/
theorem ClaimTable.grant_holders {t : ClaimTable} {c : Chan} {i : RecIdx} {b : ClaimBody} (h : t.stackSound c)
    (hfree : t.isFree i = true) (hc : c ∈ b.chans) (hp : ∀ j ∈ t.holders.get c, t.priority j ≠ b.priority) :
    ∃ above below, t.holders.get c = above ++ below ∧ (t.grant i b).holders.get c = above ++ i :: below
      ∧ (∀ j ∈ above, b.priority < t.priority j) ∧ ∀ j ∈ below, t.priority j < b.priority := by
  have hget : (t.grant i b).holders.get c = insertHolder t i b.priority (t.holders.get c) := by
    simp only [ClaimTable.grant, ClaimTable.insert, Table.get_mapIdx, if_pos hc]
    refine insertHolder_congr fun j hj => ClaimTable.priority_congr ?_
    exact Table.get_modify_ne _ _ fun hji => ClaimTable.not_mem_of_isFree h hfree (hji ▸ hj)
  rw [hget]
  exact insertHolder_decomposes i h.2.1 hp

theorem ClaimTable.grant_stackSound {t : ClaimTable} {c : Chan} {i : RecIdx} {b : ClaimBody} (h : t.stackSound c)
    (hfree : t.isFree i = true)
    (hroom : c ∈ b.chans → (t.holders.get c).length < Config.stackDepth ∧ ∀ j ∈ t.holders.get c, t.priority j ≠ b.priority) :
    (t.grant i b).stackSound c := by
  have hnew := ClaimTable.not_mem_of_isFree h hfree
  have hother : ∀ j ∈ t.holders.get c, j ≠ i := fun j hj hji => hnew (hji ▸ hj)
  have hpriority : ∀ j ∈ t.holders.get c, (t.grant i b).priority j = t.priority j := fun j hj =>
    ClaimTable.priority_congr (t.grant_other b (hother j hj))
  have hown : (t.grant i b).priority i = b.priority :=
    ClaimTable.priority_of_body? (ClaimTable.body?_of_live? (t.grant_live? i b))
  have hlists : ∀ j, j ≠ i → ((t.grant i b).listsLive c j = true ↔ j ∈ t.holders.get c) := fun j hj => by
    rw [ClaimTable.listsLive_congr c (t.grant_other b hj), h.2.2]
  have hlisted := ClaimTable.listsLive_of_live? (t.grant_live? i b) c
  by_cases hc : c ∈ b.chans
  · obtain ⟨hlength, hp⟩ := hroom hc
    obtain ⟨above, below, hsplit, hget, habove, hbelow⟩ := ClaimTable.grant_holders h hfree hc hp
    have hsorted := h.2.1
    rw [hsplit] at hlength hother hpriority hlists hsorted
    obtain ⟨ha, hb, hab⟩ := List.pairwise_append.mp hsorted
    simp only [List.mem_append] at hpriority
    refine ⟨?_, ?_, fun j => ?_⟩
    · rw [hget]
      simp only [List.length_append, List.length_cons] at hlength ⊢
      omega
    · rw [hget, List.pairwise_append, List.pairwise_cons]
      refine ⟨ha.imp_of_mem fun hx hy hxy => ?_, ⟨fun j hj => ?_, hb.imp_of_mem fun hx hy hxy => ?_⟩, fun j hj k hk => ?_⟩
      · rwa [hpriority _ (.inl hx), hpriority _ (.inl hy)]
      · rw [hown, hpriority _ (.inr hj)]; exact hbelow j hj
      · rwa [hpriority _ (.inr hx), hpriority _ (.inr hy)]
      · rw [hpriority _ (.inl hj)]
        rcases List.mem_cons.mp hk with rfl | hk
        · rw [hown]; exact habove j hj
        · rw [hpriority _ (.inr hk)]; exact hab j hj k hk
    · rw [hget]
      by_cases hj : j = i
      · subst hj; simp [hlisted.mpr hc]
      · rw [hlists j hj]; simp [hj]
  · have hget := t.grant_holders_other i hc
    refine ⟨hget ▸ h.1, ?_, fun j => ?_⟩
    · rw [hget]
      exact h.2.1.imp_of_mem fun hx hy hxy => by rwa [hpriority _ hx, hpriority _ hy]
    · rw [hget]
      by_cases hj : j = i
      · subst hj; simp [hnew, hlisted.not.mpr hc]
      · rw [hlists j hj]

/-- R31: a tick changes no record but in its count. -/
theorem ClaimRecord.leaseTick_state (r : ClaimRecord) : r.leaseTick.state = match r.state with
    | .live b => .live { b with remaining := b.remaining - 1 }
    | .free => .free
    | .retired b why => .retired b why := by
  unfold ClaimRecord.leaseTick
  split <;> simp_all

/-- R31: the table with every LIVE record decremented. -/
def ClaimTable.counted (t : ClaimTable) : ClaimTable := { t with recs := t.recs.map (·.leaseTick) }

theorem ClaimTable.counted_state (t : ClaimTable) (i : RecIdx) :
    (t.counted.recs.get i).state = match (t.recs.get i).state with
      | .live b => .live { b with remaining := b.remaining - 1 }
      | .free => .free
      | .retired b why => .retired b why := by
  rw [ClaimTable.counted, Table.get_map, ClaimRecord.leaseTick_state]

theorem ClaimTable.counted_stackSound {t : ClaimTable} {c : Chan} (h : t.stackSound c) : t.counted.stackSound c := by
  refine ClaimTable.stackSound_of_agree (t := t) rfl (fun j => ?_) (fun j => ?_) h
  · unfold ClaimTable.priority ClaimTable.body? ClaimState.body?
    rw [t.counted_state j]
    cases (t.recs.get j).state <;> rfl
  · unfold ClaimTable.listsLive ClaimTable.live?
    rw [t.counted_state j]
    cases (t.recs.get j).state <;> rfl

theorem ClaimChange.stackSound {mayGrant : Prop} {t u : ClaimTable} (hc : ClaimChange mayGrant t u)
    (h : ∀ c, t.stackSound c) (c : Chan) : u.stackSound c := by
  cases hc with
  | free i => exact ClaimTable.free_stackSound i (h c)
  | retire i why => exact ClaimTable.retire_stackSound why i (h c)
  | rewrite hlive hpriority hchans _ => exact ClaimTable.rewrite_stackSound hlive hpriority hchans (h c)
  | grant _ hfree _ _ hroom => exact ClaimTable.grant_stackSound (h c) hfree (hroom c)
  | tick => exact ClaimTable.retireAll_stackSound .expired _ (ClaimTable.counted_stackSound (h c))

theorem resetClaims_stackSound (c : Chan) : resetClaims.stackSound c := by
  refine ⟨by simp [resetClaims], by simp [resetClaims], fun i => ?_⟩
  rw [ClaimTable.listsLive_of_not_live (by simp [ClaimTable.live?, resetClaims])]
  simp [resetClaims]

/-- Settles O54: each change of the claim table keeps the stacks sound, and a device reset empties them. -/
theorem holderStacksKept : Obligations.HolderStacksKept := by
  unfold Obligations.HolderStacksKept
  intro s t
  refine step_keeps (P := StacksInv) (fun _ _ h => h) (fun i s t h hx => ?_) fun s h => ?_
  · cases i with
    | deviceReset reached flaws => cases hx; exact resetClaims_stackSound
    | _ => exact (exec_claimChanges (by simp) hx).keep (P := fun t => ∀ c, t.stackSound c) (fun _ _ hc => hc.stackSound) h
  · rw [StacksInv, s.internalPeriod_claims]
    exact h

end Sys2Proof.Machine
end

section
/-! PROOFS. The ranges of the claim records and the running of LIVE leases (R1, R30), kept by each change of the claim
table. -/

-- The whole text compiles close to the check's memory limit, so this part starts no threads of its own.
set_option Elab.async false

namespace Sys2Proof.Machine

/-! ## What a retirement leaves of the records -/

theorem ClaimTable.retire_self_state {t : ClaimTable} {i : RecIdx} {b : ClaimBody} (h : t.live? i = some b)
    (why : RetireReason) : ((t.retire why i).recs.get i).state = .retired b why := by
  rw [ClaimTable.retire_of_live h, ClaimTable.setState_self]

/-- R23: a retirement keeps every field of every record but its state. -/
theorem ClaimTable.retire_body? (t : ClaimTable) (why : RetireReason) (i j : RecIdx) :
    (t.retire why i).body? j = t.body? j := by
  by_cases hj : j = i
  · subst hj
    cases hl : t.live? j with
    | none => rw [ClaimTable.retire_of_not_live hl]
    | some b =>
      rw [ClaimTable.body?_of_live? hl, ClaimTable.body?, ClaimTable.retire_self_state hl]
      rfl
  · exact ClaimTable.body?_congr (t.retire_other why hj)

theorem ClaimTable.retireAll_body? (t : ClaimTable) (why : RetireReason) (is : List RecIdx) (j : RecIdx) :
    (is.foldl (ClaimTable.retire why) t).body? j = t.body? j := by
  induction is generalizing t with
  | nil => rfl
  | cons i is ih => rw [List.foldl_cons, ih, ClaimTable.retire_body?]

/-- R34, R45: of many records retired, the LIVE ones that are left are those not named. -/
theorem ClaimTable.retireAll_live? (t : ClaimTable) (why : RetireReason) (is : List RecIdx) (j : RecIdx) :
    (is.foldl (ClaimTable.retire why) t).live? j = if j ∈ is then none else t.live? j := by
  induction is generalizing t with
  | nil => rfl
  | cons i is ih =>
    rw [List.foldl_cons, ih]
    by_cases hj : j = i
    · subst hj
      simp [ClaimTable.retire_live?]
    · rw [ClaimTable.live?_congr (t.retire_other why hj)]
      simp [hj]

/-! ## The rule -/

/-- R1, R30, as a rule of the claim table: every record in range, and at least one tick left to a LIVE one. -/
def ClaimTable.leasesSound (t : ClaimTable) : Prop :=
  (∀ i, ∀ b ∈ t.body? i, b.inRange) ∧ ∀ i, ∀ b ∈ t.live? i, 1 ≤ b.remaining

/-- Where one record alone changes, the rule asks about that record alone. -/
theorem ClaimTable.leasesSound_of_one {t u : ClaimTable} {i : RecIdx} (h : t.leasesSound)
    (hrecs : ∀ j, j ≠ i → u.recs.get j = t.recs.get j) (hbody : ∀ b ∈ u.body? i, b.inRange)
    (hlive : ∀ b ∈ u.live? i, 1 ≤ b.remaining) : u.leasesSound := by
  obtain ⟨hrange, hrunning⟩ := h
  constructor <;> intro j <;> by_cases hj : j = i
  · exact hj ▸ hbody
  · rw [ClaimTable.body?_congr (hrecs j hj)]; exact hrange j
  · exact hj ▸ hlive
  · rw [ClaimTable.live?_congr (hrecs j hj)]; exact hrunning j

theorem ClaimTable.free_leasesSound {t : ClaimTable} (i : RecIdx) (h : t.leasesSound) : (t.free i).leasesSound := by
  refine ClaimTable.leasesSound_of_one (i := i) h (fun j hj => by simp [ClaimTable.free_recs, hj]) (fun b hb => ?_)
    fun b hb => ?_
  · simp [ClaimTable.body?, ClaimTable.free_recs, ClaimState.body?] at hb
  · rw [ClaimTable.free_live?] at hb; cases hb

theorem ClaimTable.retireAll_leasesSound {t : ClaimTable} (why : RetireReason) (is : List RecIdx)
    (hrange : ∀ i, ∀ b ∈ t.body? i, b.inRange) (hlive : ∀ i, i ∉ is → ∀ b ∈ t.live? i, 1 ≤ b.remaining) :
    (is.foldl (ClaimTable.retire why) t).leasesSound := by
  constructor <;> intro i b hb
  · rw [ClaimTable.retireAll_body?] at hb
    exact hrange i b hb
  · rw [ClaimTable.retireAll_live?] at hb
    split at hb
    · cases hb
    next hi => exact hlive i hi b hb

theorem ClaimTable.counted_live? {t : ClaimTable} {i : RecIdx} {b : ClaimBody} :
    t.counted.live? i = some b ↔ ∃ b', t.live? i = some b' ∧ b = { b' with remaining := b'.remaining - 1 } := by
  rw [ClaimTable.live?_eq_some, ClaimTable.counted_state]
  simp only [ClaimTable.live?_eq_some]
  cases (t.recs.get i).state <;> simp [eq_comm]

/-- R31: a tick lowers a count and changes no other field. -/
theorem ClaimTable.counted_body? {t : ClaimTable} {i : RecIdx} {b : ClaimBody} (h : t.counted.body? i = some b) :
    ∃ b' n, t.body? i = some b' ∧ n ≤ b'.remaining ∧ b = { b' with remaining := n } := by
  unfold ClaimTable.body? at *
  rw [ClaimTable.counted_state] at h
  cases hs : (t.recs.get i).state with
  | free => rw [hs] at h; cases h
  | live b' =>
    rw [hs] at h
    exact ⟨b', b'.remaining - 1, rfl, by omega, (Option.some.inj h).symm⟩
  | retired b' why =>
    rw [hs] at h
    exact ⟨b', b'.remaining, rfl, le_refl _, (Option.some.inj h).symm⟩

theorem ClaimTable.mem_runOut {t : ClaimTable} {i : RecIdx} : i ∈ t.runOut ↔ ∃ b, t.live? i = some b ∧ b.remaining = 0 := by
  simp only [ClaimTable.runOut, List.mem_filter, List.mem_finRange, true_and]
  cases t.live? i <;> simp

theorem ClaimTable.ticked_eq (t : ClaimTable) :
    t.ticked = t.counted.runOut.foldl (ClaimTable.retire .expired) t.counted := rfl

/-- R31, R33: of the records decremented, those left without a tick retire. -/
theorem ClaimTable.ticked_leasesSound {t : ClaimTable} (h : t.leasesSound) : t.ticked.leasesSound := by
  rw [ClaimTable.ticked_eq]
  refine ClaimTable.retireAll_leasesSound .expired _ (fun i b hb => ?_) fun i hi b hb => ?_
  · obtain ⟨b', n, hb', hn, rfl⟩ := ClaimTable.counted_body? hb
    obtain ⟨hpriority, hfew, hmany, hnodup, hvalues, hlease, hlong, hremaining⟩ := h.1 i b' hb'
    exact ⟨hpriority, hfew, hmany, hnodup, hvalues, hlease, hlong, hn.trans hremaining⟩
  · have hne : b.remaining ≠ 0 := fun hz => hi (ClaimTable.mem_runOut.mpr ⟨b, hb, hz⟩)
    exact Nat.one_le_iff_ne_zero.mpr hne

theorem ClaimChange.leasesSound {mayGrant : Prop} {t u : ClaimTable} (hc : ClaimChange mayGrant t u)
    (h : t.leasesSound) : u.leasesSound := by
  cases hc with
  | free i => exact ClaimTable.free_leasesSound i h
  | retire i why => exact ClaimTable.retireAll_leasesSound why [i] h.1 fun j _ => h.2 j
  | @rewrite i b b' hlive hpriority hchans hrange =>
    have hlive' := ClaimTable.live?_eq_some.mpr (t.setState_self i (.live b'))
    obtain ⟨hin, hrunning⟩ := hrange (h.1 i b (ClaimTable.body?_of_live? hlive)) (h.2 i b hlive)
    refine ClaimTable.leasesSound_of_one (i := i) h (fun j hj => t.setState_other _ hj) (fun d hd => ?_) fun d hd => ?_
    · rw [ClaimTable.body?_of_live? hlive'] at hd; cases hd; exact hin
    · rw [hlive'] at hd; cases hd; exact hrunning
  | @grant i b _ hfree hrange hremaining _ =>
    have hlive := t.grant_live? i b
    refine ClaimTable.leasesSound_of_one (i := i) h (fun j hj => t.grant_other b hj) (fun d hd => ?_) fun d hd => ?_
    · rw [ClaimTable.body?_of_live? hlive] at hd; cases hd; exact hrange
    · rw [hlive] at hd; cases hd; exact hremaining
  | tick => exact ClaimTable.ticked_leasesSound h

theorem resetClaims_leasesSound : resetClaims.leasesSound := by
  constructor <;> intro i b hb <;> simp [resetClaims, ClaimTable.body?, ClaimTable.live?, ClaimState.body?] at hb

/-- Settles O55: each change of the claim table keeps the records in range and the LIVE leases running. -/
theorem leaseRangesKept : Obligations.LeaseRangesKept := by
  unfold Obligations.LeaseRangesKept
  intro s t
  refine step_keeps (P := LeasesInv) (fun _ _ h => h) (fun i s t h hx => ?_) fun s h => ?_
  · cases i with
    | deviceReset reached flaws => cases hx; exact resetClaims_leasesSound
    | _ => exact (exec_claimChanges (by simp) hx).keep (P := ClaimTable.leasesSound) (fun _ _ hc => hc.leasesSound) h
  · rw [LeasesInv, s.internalPeriod_claims]
    exact h

/-! ## The absence of LIVE records (R125) -/

/-- No record is LIVE. -/
def ClaimTable.noneLive (t : ClaimTable) : Prop := ∀ i, t.live? i = none

/-- Only a grant makes a record LIVE. -/
theorem ClaimChange.noneLive {mayGrant : Prop} {t u : ClaimTable} (hmay : ¬ mayGrant) (hc : ClaimChange mayGrant t u)
    (h : t.noneLive) : u.noneLive := by
  intro j
  cases hc with
  | free i =>
    by_cases hj : j = i
    · subst hj; exact t.free_live? j
    · rw [ClaimTable.live?_congr (t := t) (u := t.free i) (by simp [ClaimTable.free_recs, hj]), h j]
  | retire i why => rw [ClaimTable.retire_of_not_live (h i), h j]
  | @rewrite i b b' hlive => rw [h i] at hlive; cases hlive
  | grant hgrant => exact absurd hgrant hmay
  | tick =>
    rw [ClaimTable.ticked_eq, ClaimTable.retireAll_live?]
    split
    · rfl
    · refine Option.eq_none_iff_forall_ne_some.mpr fun b hb => ?_
      obtain ⟨b', hb', -⟩ := ClaimTable.counted_live?.mp hb
      rw [h j] at hb'
      cases hb'

theorem ClaimChanges.noneLive {mayGrant : Prop} {t u : ClaimTable} (hmay : ¬ mayGrant) (hc : ClaimChanges mayGrant t u)
    (h : t.noneLive) : u.noneLive :=
  hc.keep (P := ClaimTable.noneLive) (fun _ _ hc => hc.noneLive hmay) h

/-- R45: the sweep leaves no record LIVE. -/
theorem ClaimTable.sweep_noneLive (t : ClaimTable) (why : RetireReason) :
    (t.liveRecords.foldl (ClaimTable.retire why) t).noneLive := by
  intro i
  rw [ClaimTable.retireAll_live?]
  split
  · rfl
  next hi => simpa [ClaimTable.liveRecords] using hi

theorem resetClaims_noneLive : resetClaims.noneLive := fun i => by simp [resetClaims, ClaimTable.live?]

end Sys2Proof.Machine
end

section
/-! PROOFS. The supervisor's changes of state, and the absence of LIVE records in STARTING and LAPSED (R125). -/

-- The whole text compiles close to the check's memory limit, so this part starts no threads of its own.
set_option Elab.async false

namespace Sys2Proof.Machine

/-! ## What each operation makes of the supervisor -/

/-- R122, R127: the supervisor LOCKED, its divider restarted. -/
def Supervisor.locked (u : Supervisor) : Supervisor :=
  { u with state := .locked, holdoverRemaining := none, source := .refclkEdges, dividerCount := 0 }

/-- R123: the supervisor in HOLDOVER with a full countdown, its divider restarted. -/
def Supervisor.heldOver (u : Supervisor) : Supervisor :=
  { u with state := .holdover, holdoverRemaining := some u.holdoverPeriod, source := .internalPeriods, dividerCount := 0 }

/-- R125: the supervisor LAPSED. -/
def Supervisor.lapsedNow (u : Supervisor) : Supervisor := { u with state := .lapsed, holdoverRemaining := none }

/-- R116, R117, R122, R123: the supervisor after a window end. -/
def Supervisor.afterWindow (u : Supervisor) : Supervisor :=
  if u.producing = true ∧ u.state = .starting ∧ u.setsReference = true then u.windowEnded.locked
  else if u.producing = true ∧ u.state = .locked ∧ u.goodWindow = false then u.windowEnded.heldOver
  else u.windowEnded

/-- R118: the supervisor after one edge or period of `source`. -/
def Supervisor.divided (u : Supervisor) (source : TickSource) : Supervisor :=
  if u.producing = true ∧ u.source = source then
    { u with dividerCount := if u.division ≤ u.dividerCount + 1 then 0 else u.dividerCount + 1 }
  else u

/-- R125: the supervisor after a tick whose countdown has run out. -/
def Supervisor.lapseIfOut (u : Supervisor) : Supervisor := if u.holdoverOut = true then u.lapsedNow else u

/-- R122, R124, R125: the supervisor after a tick. -/
def Supervisor.countedDown (u : Supervisor) : Supervisor :=
  { u with holdoverRemaining := u.holdoverRemaining.map (· - 1) }.lapseIfOut

@[simp] theorem State.enterLocked_supervisor (s : State) : s.enterLocked.supervisor = s.supervisor.locked := rfl

@[simp] theorem State.enterHoldover_supervisor (s : State) : s.enterHoldover.supervisor = s.supervisor.heldOver := rfl

@[simp] theorem State.enterLapsed_supervisor (s : State) : s.enterLapsed.supervisor = s.supervisor.lapsedNow := rfl

theorem State.windowEnd_supervisor (s : State) : s.windowEnd.supervisor = s.supervisor.afterWindow := by
  unfold State.windowEnd Supervisor.afterWindow
  cases hp : s.supervisor.producing <;> cases hs : s.supervisor.state <;>
    cases hset : s.supervisor.setsReference <;> cases hgood : s.supervisor.goodWindow <;> simp

theorem State.countDivider_supervisor (s : State) (source : TickSource) :
    (s.countDivider source).supervisor = s.supervisor.divided source := by
  unfold State.countDivider Supervisor.divided
  split
  · by_cases hd : s.supervisor.division ≤ s.supervisor.dividerCount + 1 <;> simp [hd, State.produceTick]
  · rfl

theorem State.lapseIfOut_supervisor (s : State) : s.lapseIfOut.supervisor = s.supervisor.lapseIfOut := by
  unfold State.lapseIfOut Supervisor.lapseIfOut
  split <;> simp

theorem State.countDown_supervisor (s : State) : s.decrementHoldover.lapseIfOut.supervisor = s.supervisor.countedDown :=
  State.lapseIfOut_supervisor _

/-- R120: the supervisor with an activated profile. -/
def Supervisor.activated (u : Supervisor) (prof : Profile) : Supervisor :=
  { u.settings prof with holdoverRemaining := u.holdoverRemaining.map (min prof.holdoverPeriod), dividerCount := 0 }

@[simp] theorem State.deliver_supervisor (s : State) (prof : Profile) (order : ActivationOrder) :
    (s.deliver prof order).supervisor = s.supervisor.activated prof := by
  cases order <;> simp [State.deliver, State.activateSupervisor, Supervisor.activated]

theorem State.completeCommit_supervisor (s : State) (cm : Commit) (written : List Byte) (order : ActivationOrder) :
    (s.completeCommit cm written order).supervisor
      = if verified cm written = true then s.supervisor.activated cm.image else s.supervisor := by
  unfold State.completeCommit
  split <;> simp

theorem State.completeLoad_supervisor (s : State) (choice : LoadChoice) :
    (s.completeLoad choice).supervisor = s.supervisor.started choice.profile := by
  simp only [State.completeLoad, State.startPorts_supervisor, State.startSupervisor, State.startMonitor_supervisor,
    State.enableOutputs_supervisor]
  split <;> rfl

/-! ## What the completions make of the store -/

@[simp] theorem State.completeLoad_store (s : State) (choice : LoadChoice) :
    (s.completeLoad choice).store = s.store.loaded choice := by simp [State.completeLoad]

theorem State.completeCommit_store (s : State) (cm : Commit) (written : List Byte) (order : ActivationOrder) :
    (s.completeCommit cm written order).store
      = if verified cm written = true then (s.store.withCopy cm.target written).committed cm
        else (s.store.withCopy cm.target written).commitFailed := by
  unfold State.completeCommit
  split <;> simp

/-- Only a device reset and the end of the load change whether the load is in progress. -/
theorem exec_loadInProgress {i : Instr} {s t : State} (hreset : ∀ reached flaws, i ≠ .deviceReset reached flaws)
    (hload : i ≠ .startUpLoadCompletion) (hx : exec i s = .next t) : t.store.loadInProgress = s.store.loadInProgress := by
  by_cases hend : i = .resetEnd
  · subst hend
    simp only [exec, execResetEnd] at hx
    split at hx <;> cases hx <;> rfl
  · exact (Prod.mk.inj (Prod.mk.inj (exec_loadStatus hreset hend hload hx)).2).1

/-! ## The absence of LIVE records in STARTING and LAPSED -/

/-- The rule holds on through a change that leaves the supervisor in the same state and grants no claim there. -/
theorem TimebaseInv.of_same {s t : State} (h : TimebaseInv s) (hstate : t.supervisor.state = s.supervisor.state)
    (hproducing : t.supervisor.producing = s.supervisor.producing)
    (hcount : s.supervisor.holdoverRemaining = none → t.supervisor.holdoverRemaining = none)
    (hclaims : ¬ s.mayGrant → s.claims.noneLive → t.claims.noneLive)
    (hload : t.store.loadInProgress = s.store.loadInProgress) (hinv : LoadInv t) : TimebaseInv t := by
  obtain ⟨hnone, hwait, -⟩ := h
  refine ⟨fun hs => hclaims (fun hm => hm (hstate ▸ hs)) (hnone (hstate ▸ hs)), fun hl => ?_, hinv⟩
  obtain ⟨hstarting, hoff, hcountdown⟩ := hwait (hload ▸ hl)
  exact ⟨hstate.trans hstarting, hproducing.trans hoff, hcount hcountdown⟩

/-- Once the load has ended, the rule asks only for the claims. -/
theorem timebaseInv_of_loaded {t : State} (hload : t.store.loadInProgress = false) (hinv : LoadInv t)
    (hclaims : t.supervisor.state = .starting ∨ t.supervisor.state = .lapsed → t.claims.noneLive) : TimebaseInv t :=
  ⟨hclaims, fun hl => by rw [hload] at hl; exact absurd hl (by decide), hinv⟩

theorem TimebaseInv.loaded {s : State} (h : TimebaseInv s)
    (hs : s.supervisor.state ≠ .starting ∨ s.supervisor.producing = true ∨ s.supervisor.holdoverRemaining ≠ none) :
    s.store.loadInProgress = false := by
  cases hl : s.store.loadInProgress with
  | false => rfl
  | true =>
    obtain ⟨hstarting, hoff, hcountdown⟩ := h.2.1 hl
    simp [hstarting, hoff, hcountdown] at hs

theorem State.windowEnd_timebaseInv {s : State} (h : TimebaseInv s) : TimebaseInv s.windowEnd := by
  have hinv : LoadInv s.windowEnd := by simpa [LoadInv] using h.2.2
  by_cases hchange : s.supervisor.afterWindow.state = s.supervisor.state
      ∧ s.supervisor.afterWindow.holdoverRemaining = s.supervisor.holdoverRemaining
  · refine h.of_same (s.windowEnd_supervisor ▸ hchange.1) ?_ (fun hn => ?_) (fun _ hn => by simpa using hn) (by simp) hinv
    · rw [s.windowEnd_supervisor, Supervisor.afterWindow]
      split <;> [rfl; split <;> rfl]
    · rw [s.windowEnd_supervisor, hchange.2, hn]
  · rw [Supervisor.afterWindow] at hchange
    have hawake : s.supervisor.producing = true
        ∧ (s.supervisor.afterWindow.state = .locked ∨ s.supervisor.afterWindow.state = .holdover) := by
      rw [Supervisor.afterWindow]
      split at hchange
      next hset => exact ⟨hset.1, .inl (by simp [hset, Supervisor.locked])⟩
      next hset =>
        split at hchange
        next hlost => exact ⟨hlost.1, .inr (by simp [hlost, Supervisor.heldOver])⟩
        next => exact absurd ⟨rfl, rfl⟩ hchange
    refine timebaseInv_of_loaded (by simpa using h.loaded (.inr (.inl hawake.1))) hinv fun hs => ?_
    rw [s.windowEnd_supervisor] at hs
    rcases hawake.2 with he | he <;> simp [he] at hs

theorem State.countDivider_timebaseInv {s : State} (source : TickSource) (h : TimebaseInv s) :
    TimebaseInv (s.countDivider source) := by
  have hsup : (s.countDivider source).supervisor
      = { s.supervisor with dividerCount := (s.countDivider source).supervisor.dividerCount } := by
    rw [s.countDivider_supervisor, Supervisor.divided]
    split <;> rfl
  exact h.of_same (by rw [hsup]) (by rw [hsup]) (fun hn => by rw [hsup]; exact hn) (fun _ hn => by simpa using hn) (by simp)
    (by simpa [LoadInv] using h.2.2)

theorem State.lapseIfOut_timebaseInv {s : State} (h : TimebaseInv s) : TimebaseInv s.lapseIfOut := by
  have hinv : LoadInv s.lapseIfOut := by simpa [LoadInv] using h.2.2
  by_cases hout : s.supervisor.holdoverOut = true
  · have hcountdown : s.supervisor.holdoverRemaining ≠ none := by
      simp only [Supervisor.holdoverOut, Bool.and_eq_true, beq_iff_eq] at hout
      simp [hout.2]
    refine timebaseInv_of_loaded (by simpa using h.loaded (.inr (.inr hcountdown))) hinv fun _ => ?_
    rw [State.lapseIfOut, if_pos hout]
    exact s.claims.sweep_noneLive .swept
  · rw [State.lapseIfOut, if_neg hout]
    exact h

theorem State.takeTick_timebaseInv {s : State} (b : TickTaker) (h : TimebaseInv s) : TimebaseInv (s.takeTick b) := by
  by_cases hb : b = .supervisor
  · subst hb
    refine State.takeTick_keeps (fun _ _ hu => hu) (fun u hu => State.lapseIfOut_timebaseInv ?_) h
    exact hu.of_same rfl rfl (fun hn => by simp [State.decrementHoldover, hn]) (fun _ hn => hn) rfl hu.2.2
  · have hload := s.takeTick_loadStatus b
    refine h.of_same (by rw [s.takeTick_supervisor hb]) (by rw [s.takeTick_supervisor hb])
      (by rw [s.takeTick_supervisor hb]; exact id) (fun hm hn => (takeTick_claimChanges s b _).noneLive hm hn) ?_
      (loadInv_of_loadStatus_eq h.2.2 hload)
    exact (Prod.mk.inj (Prod.mk.inj hload).2).1

theorem ownResume_timebaseInv {s : State} (who : Requester) (q : Unit) (h : TimebaseInv s) :
    TimebaseInv (ownResume s who q).1 := by
  have hlocked : s.supervisor.state ≠ .starting → TimebaseInv s.enterLocked := fun hs =>
    timebaseInv_of_loaded (by simpa using h.loaded (.inl hs)) (by simpa [LoadInv] using h.2.2)
      fun hl => by simp [Supervisor.locked] at hl
  unfold ownResume
  cases hs : s.supervisor.state with
  | starting => exact h
  | locked => exact h
  | holdover | lapsed => dsimp only; split <;> [exact hlocked (by simp [hs]); exact h]

theorem exec_timebaseInv {i : Instr} {s t : State} (h : TimebaseInv s) (hx : exec i s = .next t) : TimebaseInv t := by
  have hinv : LoadInv t := exec_loadInv h.2.2 hx
  cases i with
  | deviceReset reached flaws => cases hx; exact ⟨fun _ => resetClaims_noneLive, fun _ => ⟨rfl, rfl, rfl⟩, hinv⟩
  | startUpLoadCompletion =>
    simp only [exec, execStartUpLoadCompletion] at hx
    split at hx <;> cases hx
    next choice hchoice =>
      refine timebaseInv_of_loaded (by simp [ProfileStore.loaded]) hinv fun _ => ?_
      have hloading := h.2.2.1 (by simp [hchoice])
      exact s.completeLoad_claims choice ▸ h.1 (.inl (h.2.1 hloading).1)
    next => exact h
  | resume p =>
    cases hx
    exact State.serve_keeps (P := TimebaseInv) (fun _ _ hu => hu) (fun _ _ _ hu => hu) h p _ _ _
      fun _ who q hu => ownResume_timebaseInv who q hu
  | commitCompletion flaws order =>
    have hload := exec_loadInProgress (by simp) (by simp) hx
    simp only [exec, execCommitCompletion] at hx
    split at hx <;> cases hx
    next cm hcm =>
      refine h.of_same ?_ ?_ (fun hn => ?_) (fun _ hn => by simpa using hn) hload hinv <;>
        rw [s.completeCommit_supervisor]
      · split <;> rfl
      · split <;> rfl
      · split <;> simp [Supervisor.activated, hn]
    next => exact h
  | windowEnd =>
    simp only [exec, execWindowEnd] at hx
    split at hx <;> cases hx
    · exact h
    · exact State.windowEnd_timebaseInv h
  | tick takers => exact execTick_keeps (P := TimebaseInv) (fun _ hu => hu) (fun _ b hu => State.takeTick_timebaseInv b hu) h hx
  | lapsedEntry =>
    obtain rfl := Host.Outcome.next.inj hx
    exact State.lapseIfOut_timebaseInv (State.takeTick_timebaseInv .supervisor h)
  | refclkEdge =>
    simp only [exec, execRefclkEdge] at hx
    split at hx <;> cases hx
    · exact h
    · exact State.countDivider_timebaseInv .refclkEdges h
  | _ =>
    have hsup := exec_supervisor rfl hx
    refine h.of_same (by rw [hsup]) (by rw [hsup]) (by rw [hsup]; exact id)
      (fun hm hn => (exec_claimChanges (by simp) hx).noneLive hm hn)
      (exec_loadInProgress (by simp) (by simp) hx) hinv

/-- Settles O57: a grant is refused in STARTING and LAPSED, and the entry into LAPSED sweeps the LIVE records. -/
theorem noLiveClaimWithoutTimebase : Obligations.NoLiveClaimWithoutTimebase := by
  unfold Obligations.NoLiveClaimWithoutTimebase
  intro s t
  refine step_keeps (P := TimebaseInv) (fun _ _ h => h) (fun i s t h hx => exec_timebaseInv h hx) fun s h => ?_
  unfold State.internalPeriod
  split
  · exact h
  · have hcounted : TimebaseInv (s.carrierPeriod.countDivider .internalPeriods) :=
      State.countDivider_timebaseInv .internalPeriods h
    unfold State.windowPeriod
    split
    · exact hcounted
    · exact State.windowEnd_timebaseInv hcounted

end Sys2Proof.Machine
end

section
/-! PROOFS. The combinations of the port table (R148), kept by each thing a port, the decoder or the load does. -/

-- The whole text compiles close to the check's memory limit, so this part starts no threads of its own.
set_option Elab.async false

namespace Sys2Proof.Machine

/-! ## The combinations, port state by port state -/

theorem PortState.mayFollow_refl (st : PortState) : st.mayFollow st = true := by cases st <;> rfl

theorem Port.combined_starting {q : Port} (hs : q.state = .starting) :
    q.combined = true ↔ q.inFlight = none ∧ q.waiting = none ∧ q.buffer = none := by
  simp [Port.combined, hs, and_assoc]

theorem Port.combined_ready {q : Port} (hs : q.state = .ready) :
    q.combined = true ↔ (∀ f ∈ q.inFlight, f.abandoned = true) ∧ q.waiting = none ∧ q.buffer = none := by
  cases hf : q.inFlight <;> simp [Port.combined, hs, hf, and_assoc]

theorem Port.combined_working {q : Port} (hs : q.state = .working) :
    q.combined = true ↔ (∃ f, q.inFlight = some f ∧ f.abandoned = q.waiting.isSome) ∧ q.buffer = none := by
  cases hf : q.inFlight <;> simp [Port.combined, hs, hf]

theorem Port.combined_answering {q : Port} (hs : q.state = .answering) :
    q.combined = true ↔ q.inFlight = none ∧ q.waiting = none ∧ ∃ r, q.buffer = some r := by
  simp [Port.combined, hs, and_assoc, Option.isSome_iff_exists]

/-! ## What a port does with a frame -/

theorem Port.sound.stateAtFall_ready {q : Port} {loading : Bool} (h : q.sound loading) {tr : OpenTransaction}
    (htr : q.transaction = some tr) (hf : tr.stateAtFall = .ready) : q.state = .ready := by
  have := (h.2.2.2.1 tr htr).2
  simpa [hf, PortState.mayFollow] using this

theorem Port.sound.stateAtFall_answering {q : Port} {loading : Bool} (h : q.sound loading) {tr : OpenTransaction}
    (htr : q.transaction = some tr) (hf : tr.stateAtFall = .answering) : q.state = .answering := by
  have := (h.2.2.2.1 tr htr).2
  simpa [hf, PortState.mayFollow] using this

theorem Port.sound.stateAtFall_working {q : Port} {loading : Bool} (h : q.sound loading) {tr : OpenTransaction}
    (htr : q.transaction = some tr) (hf : tr.stateAtFall = .working) : q.state = .working ∨ q.state = .answering := by
  have := (h.2.2.2.1 tr htr).2
  simpa [hf, PortState.mayFollow] using this

/-- What a port keeps sound at the end of a transaction: everything but what ties a transaction to the pin. -/
def Port.soundAtRise (q : Port) (loading : Bool) : Prop :=
  q.combined = true ∧ (q.produced.isSome = true → q.inFlight.isSome = true)
    ∧ (q.reading.isSome = true → q.inFlight.isSome = true ∧ q.produced = none) ∧ (q.state = .starting ↔ loading = true)

theorem Port.sound.atRise {q : Port} {loading : Bool} (h : q.sound loading) : q.soundAtRise loading :=
  ⟨h.1, h.2.1, h.2.2.1, h.2.2.2.2⟩

theorem Port.soundAtRise.drop {q : Port} {loading : Bool} (h : q.soundAtRise loading) : q.drop.soundAtRise loading := h

theorem Port.soundAtRise.accept {q : Port} {loading : Bool} (h : q.soundAtRise loading) (hs : q.state = .ready)
    (r : List Byte) : (q.accept r).soundAtRise loading := by
  obtain ⟨hc, hproduced, hreading, hload⟩ := h
  obtain ⟨habandoned, hwaiting, hbuffer⟩ := (Port.combined_ready hs).mp hc
  have hloading : loading = false := by simpa [hs] using hload
  unfold Port.accept
  cases hf : q.inFlight with
  | none =>
    exact ⟨(Port.combined_working rfl).mpr ⟨⟨_, rfl, by simp [hwaiting]⟩, hbuffer⟩, fun _ => rfl,
      fun hr => ⟨rfl, (hreading hr).2⟩, by simp [hloading]⟩
  | some f =>
    exact ⟨(Port.combined_working rfl).mpr ⟨⟨f, rfl, by simp [habandoned f hf]⟩, hbuffer⟩, fun _ => rfl,
      fun hr => ⟨rfl, (hreading hr).2⟩, by simp [hloading]⟩

theorem Port.sound.takeSubmit {q : Port} {loading : Bool} (h : q.sound loading) {tr : OpenTransaction}
    (htr : q.transaction = some tr) (bytes : List Byte) : (q.takeSubmit tr.stateAtFall bytes).soundAtRise loading := by
  by_cases hready : tr.stateAtFall = .ready ∧ ∃ r, submitRequest bytes = some r
  · obtain ⟨hf, r, hr⟩ := hready
    simpa [Port.takeSubmit, hf, hr] using h.atRise.accept (h.stateAtFall_ready htr hf) r
  · rw [q.takeSubmit_eq_drop (by
      rcases Classical.not_and_iff_not_or_not.mp hready with hf | hr
      · exact .inl hf
      · exact .inr (Option.eq_none_iff_forall_ne_some.mpr fun r hs => hr ⟨r, hs⟩))]
    exact h.atRise.drop

theorem Port.sound.takeCollect {q : Port} {loading : Bool} (h : q.sound loading) {tr : OpenTransaction}
    (htr : q.transaction = some tr) (n : Nat) : (q.takeCollect tr.stateAtFall n).soundAtRise loading := by
  unfold Port.takeCollect
  split
  next r hf hbuffer =>
    split
    · have hs := h.stateAtFall_answering htr hf
      obtain ⟨hcombined, hproduced, hreading, -, hload⟩ := h
      obtain ⟨hflight, hwaiting, -⟩ := (Port.combined_answering hs).mp hcombined
      exact ⟨(Port.combined_ready rfl).mpr ⟨by simp [hflight], hwaiting, rfl⟩, hproduced, hreading, by
        simpa [hs] using hload⟩
    · exact h.atRise
  all_goals exact h.atRise

theorem Port.soundAtRise.giveUp {q : Port} {loading : Bool} (h : q.soundAtRise loading) (hs : q.state ≠ .starting) :
    q.giveUp.soundAtRise loading := by
  obtain ⟨-, hproduced, hreading, hload⟩ := h
  refine ⟨(Port.combined_ready rfl).mpr ⟨?_, rfl, rfl⟩, fun hp => ?_, fun hr => ?_, ?_⟩
  · intro f hf
    obtain ⟨g, -, rfl⟩ := Option.map_eq_some_iff.mp hf
    rfl
  · simpa [Port.giveUp] using hproduced hp
  · simpa [Port.giveUp] using hreading hr
  · simpa [Port.giveUp, hs] using hload

theorem Port.sound.takeClear {q : Port} {loading : Bool} (h : q.sound loading) {tr : OpenTransaction}
    (htr : q.transaction = some tr) : (q.takeClear tr.stateAtFall).soundAtRise loading := by
  unfold Port.takeClear
  split
  next => exact h.atRise
  next => exact h.atRise
  next hf => exact h.atRise.giveUp (by rcases h.stateAtFall_working htr hf with hs | hs <;> simp [hs])
  next hf => exact h.atRise.giveUp (by simp [h.stateAtFall_answering htr hf])

theorem Port.sound.judge {q : Port} {loading : Bool} (h : q.sound loading) {tr : OpenTransaction}
    (htr : q.transaction = some tr) (bytes : List Byte) : (q.judge tr.stateAtFall bytes).soundAtRise loading := by
  unfold Port.judge
  split
  next => exact h.atRise
  next k rest =>
    split
    · exact h.takeSubmit htr _
    · split
      · exact h.takeCollect htr _
      · split
        · exact h.atRise
        · split
          · exact h.takeClear htr
          · exact h.atRise.drop

theorem Port.sound.endTransaction {q : Port} {loading : Bool} (h : q.sound loading) {tr : OpenTransaction}
    (htr : q.transaction = some tr) (bytes : List Byte) (bits : Fin 8) : (q.endTransaction tr bytes bits).sound loading := by
  obtain ⟨hcombined, hproduced, hreading, hload⟩ := h.judge htr bytes
  exact ⟨hcombined, hproduced, hreading, fun _ hn => (by cases hn), hload⟩

/-! ## What the decoder and the load do with a port -/

theorem Port.sound.takeResponse {q : Port} {loading : Bool} (h : q.sound loading) {f : InFlight} {response : List Byte}
    (hf : q.inFlight = some f) (hp : q.produced = some response) : (q.takeResponse f response).sound loading := by
  obtain ⟨hcombined, -, hreading, htransaction, hload⟩ := h
  have hunread : q.reading = none := by
    cases hr : q.reading with
    | none => rfl
    | some g => have := (hreading (by simp [hr])).2; rw [hp] at this; cases this
  unfold Port.takeResponse
  cases hs : q.state with
  | starting => simp [((Port.combined_starting hs).mp hcombined).1] at hf
  | answering => simp [((Port.combined_answering hs).mp hcombined).1] at hf
  | ready =>
    obtain ⟨habandoned, hwaiting, hbuffer⟩ := (Port.combined_ready hs).mp hcombined
    rw [if_pos (habandoned f hf)]
    rw [hs] at htransaction hload
    exact ⟨(Port.combined_ready rfl).mpr ⟨by simp [hwaiting], rfl, hbuffer⟩, by simp, by simp [hunread], htransaction, hload⟩
  | working =>
    obtain ⟨⟨f', hf', hwaiting⟩, hbuffer⟩ := (Port.combined_working hs).mp hcombined
    obtain rfl : f = f' := Option.some.inj (hf.symm.trans hf')
    split
    next habandoned =>
      obtain ⟨r, hr⟩ := Option.isSome_iff_exists.mp (hwaiting.symm.trans habandoned)
      rw [hs] at htransaction hload
      exact ⟨(Port.combined_working rfl).mpr ⟨⟨⟨r, false⟩, by simp [hr], rfl⟩, hbuffer⟩, by simp, by simp [hunread],
        htransaction, hload⟩
    next habandoned =>
      have hnone : q.waiting = none := by simpa using hwaiting.symm.trans (Bool.eq_false_of_not_eq_true habandoned)
      refine ⟨(Port.combined_answering rfl).mpr ⟨rfl, hnone, _, rfl⟩, by simp, by simp [hunread], fun tr htr => ?_, ?_⟩
      · obtain ⟨hlow, hfollow⟩ := htransaction tr htr
        refine ⟨hlow, ?_⟩
        rw [hs] at hfollow
        cases hat : tr.stateAtFall <;> simp [hat, PortState.mayFollow] at hfollow ⊢
      · simpa [hs] using hload

/-- A response may be produced only for a request that is in flight and not being read for. -/
theorem Port.sound.answered {q : Port} {loading : Bool} (h : q.sound loading) (hf : q.inFlight.isSome = true)
    (hr : q.reading = none) (response : List Byte) : { q with produced := some response }.sound loading :=
  ⟨h.1, fun _ => hf, fun hread => (by rw [hr] at hread; cases hread), h.2.2.2.1, h.2.2.2.2⟩

theorem Port.sound.reads {q : Port} {loading : Bool} (h : q.sound loading) (hf : q.inFlight.isSome = true)
    (hp : q.produced = none) (reading : Option DeviceReading) : { q with reading := reading }.sound loading :=
  ⟨h.1, h.2.1, fun _ => ⟨hf, hp⟩, h.2.2.2.1, h.2.2.2.2⟩

theorem Port.sound.startUp {q : Port} (h : q.sound true) : q.startUp.sound false := by
  obtain ⟨hcombined, hproduced, hreading, htransaction, hload⟩ := h
  have hs : q.state = .starting := hload.mpr rfl
  obtain ⟨hflight, hwaiting, hbuffer⟩ := (Port.combined_starting hs).mp hcombined
  refine ⟨(Port.combined_ready rfl).mpr ⟨by simp [Port.startUp, hflight], hwaiting, hbuffer⟩, hproduced, hreading,
    fun tr htr => ?_, by simp [Port.startUp]⟩
  obtain ⟨hlow, hfollow⟩ := htransaction tr htr
  refine ⟨hlow, ?_⟩
  rw [hs] at hfollow
  cases hat : tr.stateAtFall <;> simp [hat, PortState.mayFollow] at hfollow
  rfl

theorem resetPort_sound (csLow : Bool) : { resetPort with csLow := csLow }.sound true :=
  ⟨rfl, fun h => (by cases h), fun h => (by cases h), fun _ h => (by cases h), by simp [resetPort]⟩

/-! ## The rule over the whole machine -/

theorem portsInv_iff {s : State} :
    PortsInv s ↔ (∀ p, (s.ports.get p).sound s.store.loadInProgress) ∧ LoadInv s := by
  constructor
  · rintro ⟨h0, h1, hinv⟩
    exact ⟨fun p => by cases p <;> assumption, hinv⟩
  · rintro ⟨h, hinv⟩
    exact ⟨h .port0, h .port1, hinv⟩

theorem PortsInv.modifyPort {s : State} (h : PortsInv s) {p : PortId} {f : Port → Port}
    (hf : (f (s.ports.get p)).sound s.store.loadInProgress) : PortsInv (s.modifyPort p f) := by
  obtain ⟨hall, hinv⟩ := portsInv_iff.mp h
  refine portsInv_iff.mpr ⟨fun p' => ?_, hinv⟩
  rw [State.modifyPort_ports, Ports.get_modify]
  split
  · exact hf
  · exact hall p'

theorem PortsInv.of_ports_eq {s t : State} (h : PortsInv s) (hports : t.ports = s.ports)
    (hload : t.store.loadInProgress = s.store.loadInProgress) (hinv : LoadInv t) : PortsInv t := by
  rw [PortsInv, hports, hload]
  exact ⟨h.1, h.2.1, hinv⟩

theorem PortsInv.csFall {s : State} (h : PortsInv s) (p : PortId) : PortsInv (s.csFall p) := by
  unfold State.csFall
  split
  · exact h
  · obtain ⟨hcombined, hproduced, hreading, -, hload⟩ := (portsInv_iff.mp h).1 p
    refine h.modifyPort ⟨hcombined, hproduced, hreading, fun tr htr => ⟨rfl, ?_⟩, hload⟩
    dsimp only at htr
    split at htr
    · cases htr
    · cases htr; exact PortState.mayFollow_refl _

theorem PortsInv.csRise {s : State} (h : PortsInv s) (p : PortId) (bytes : List Byte) (bits : Fin 8) :
    PortsInv (s.csRise p bytes bits) := by
  unfold State.csRise
  split
  next tr htr => exact h.modifyPort (((portsInv_iff.mp h).1 p).endTransaction htr bytes bits)
  next hnone =>
    obtain ⟨hcombined, hproduced, hreading, -, hload⟩ := (portsInv_iff.mp h).1 p
    exact h.modifyPort ⟨hcombined, hproduced, hreading, fun tr htr => (by rw [hnone] at htr; cases htr), hload⟩

theorem PortsInv.transact {s : State} (h : PortsInv s) (p : PortId) (kind : List Byte) (x : Transaction) :
    PortsInv (s.transact p kind x) := by
  cases x with
  | fall => exact h.csFall p
  | rise bytes bits => exact h.csRise p _ bits
  | whole bytes bits => exact (h.csFall p).csRise p _ bits

/-- The decoder answers a request it finds in flight and neither answered nor being read for. -/
theorem PortsInv.answer {s : State} (h : PortsInv s) {p : PortId} {r : List Byte} (hr : s.requestAt p = some r)
    (code : Byte) (reply : Reply) : PortsInv (s.answer p code reply) := by
  obtain ⟨⟨f, hf, -⟩, -, hread⟩ := State.requestAt_eq_some.mp hr
  exact h.modifyPort (((portsInv_iff.mp h).1 p).answered (by simp [hf]) hread _)

theorem PortsInv.readDevice {s : State} (h : PortsInv s) {p : PortId} (hf : (s.ports.get p).inFlight.isSome = true)
    (hp : (s.ports.get p).produced = none) (g : DeviceReading) (reads : List DeviceBlock) :
    PortsInv (s.readDevice p g reads) := by
  have hsound := (portsInv_iff.mp h).1 p
  unfold State.readDevice
  split
  · rw [State.modifyPort_answer]
    exact h.modifyPort ((hsound.reads hf hp none).answered hf rfl _)
  · exact h.modifyPort (hsound.reads hf hp _)

theorem PortsInv.served {α : Type} {s t : State} {p : PortId} {code : RequestCode}
    {decode : List Byte → Except Result α} {maintenanceOnly : Bool} {owner : State → Requester → α → State × Reply}
    (h : PortsInv s) (hports : ∀ u who q, (owner u who q).1.ports = u.ports)
    (hload : t.store.loadInProgress = s.store.loadInProgress) (hinv : LoadInv t)
    (hx : (.next (s.serve p code decode maintenanceOnly owner) : Host.Outcome State Fault Refusal) = .next t) :
    PortsInv t := by
  obtain rfl := Host.Outcome.next.inj hx
  rcases s.serve_cases p code decode maintenanceOnly owner with hs | ⟨r, t, why, hr, -, hs⟩ | ⟨r, slot, info, q, ha, -, -, hs⟩
  · rw [hs]; exact h
  · rw [hs]
    exact PortsInv.answer (s := { s with sessions := t }) h (State.requestOf_eq_some.mp hr).1 _ _
  · rw [hs] at hload hinv ⊢
    have hp := hports { s with sessions := s.sessions.reload slot } ⟨slot, { info with remaining := info.interval }⟩ q
    refine PortsInv.answer (PortsInv.of_ports_eq h hp hload hinv) (r := r) ?_ _ _
    rw [State.requestAt, hp]
    exact (State.requestOf_eq_some.mp ha.1).1

/-- Of the commands, only the frames, the requests, RESPONSE_PRODUCED and the two ends of the load reach a port. -/
def reachesPorts : Instr → Bool
  | .resetEnd | .commitCompletion _ _ | .windowEnd | .tick _ | .leaseExpiry | .sessionLapse | .lapsedEntry
  | .conversionCompletion _ | .channelFault _ | .faultNotice _ | .topReport _ | .valueReport _ | .quiescenFall
  | .quiescenRise | .refclkEdge => false
  | _ => true

theorem exec_ports {i : Instr} {s t : State} (hi : reachesPorts i = false) (hx : exec i s = .next t) :
    t.ports = s.ports := by
  cases i with
  | tick takers =>
    exact execTick_keeps (P := fun u => u.ports = s.ports) (fun _ h => h) (fun u b h => (u.takeTick_ports b).trans h) rfl hx
  | leaseExpiry => obtain rfl := Host.Outcome.next.inj hx; rw [State.expire_ports, State.takeTick_ports]
  | sessionLapse => obtain rfl := Host.Outcome.next.inj hx; rw [State.lapseSessions_ports, State.takeTick_ports]
  | lapsedEntry => obtain rfl := Host.Outcome.next.inj hx; rw [State.lapseIfOut_ports, State.takeTick_ports]
  | faultNotice c => cases hx; exact s.takeFaultNotice_ports c
  | resetEnd | commitCompletion _ _ | windowEnd | conversionCompletion _ | channelFault _ | topReport _ | valueReport _
  | quiescenFall | quiescenRise | refclkEdge =>
    simp only [exec, execResetEnd, execCommitCompletion, execWindowEnd, execConversionCompletion, execChannelFault,
      execTopReport, execValueReport, execQuiescenFall, execQuiescenRise, execRefclkEdge] at hx
    repeat' split at hx
    all_goals cases hx; simp
  | _ => cases hi

theorem execQueryDevice_portsInv {s t : State} {p : PortId} {reads : List DeviceBlock} (h : PortsInv s)
    (hx : execQueryDevice p s reads = .next t) : PortsInv t := by
  unfold execQueryDevice at hx
  split at hx
  next g hg =>
    cases hx
    obtain ⟨hf, hp⟩ := ((portsInv_iff.mp h).1 p).2.2.1 (by simp [hg])
    exact h.readDevice hf hp g reads
  next hnone =>
    cases hr : s.requestOf p RequestCode.queryDevice.byte with
    | none => rw [State.commonChecks_absent hr] at hx; cases hx; exact h
    | some r =>
      obtain ⟨⟨f, hf, -⟩, hp, -⟩ := State.requestAt_eq_some.mp (State.requestOf_eq_some.mp hr).1
      rcases s.commonChecks_spec p .queryDevice decodeNone false with hc | ⟨u, why, hc⟩ | ⟨u, who, q, hc⟩ <;>
        rw [hc] at hx <;> cases hx
      · exact h
      · exact PortsInv.answer (s := { s with sessions := u }) h (State.requestOf_eq_some.mp hr).1 _ _
      · exact PortsInv.readDevice (s := { s with sessions := u }) h (by simp [hf]) hp _ reads

theorem exec_portsInv {i : Instr} {s t : State} (h : PortsInv s) (hx : exec i s = .next t) : PortsInv t := by
  have hinv : LoadInv t := exec_loadInv h.2.2 hx
  cases i with
  | deviceReset reached flaws => cases hx; exact ⟨resetPort_sound _, resetPort_sound _, hinv⟩
  | startUpLoadCompletion =>
    simp only [exec, execStartUpLoadCompletion] at hx
    split at hx <;> cases hx
    next choice hchoice =>
      have hloading : s.store.loadInProgress = true := h.2.2.1 (by simp [hchoice])
      obtain ⟨h0, h1, -⟩ := h
      rw [hloading] at h0 h1
      refine ⟨?_, ?_, hinv⟩ <;> rw [State.completeLoad_store]
      · exact Port.sound.startUp (by simpa [State.completeLoad] using h0)
      · exact Port.sound.startUp (by simpa [State.completeLoad] using h1)
    next => exact h
  | submit p x | collect p x | peek p x | clear p x | unknownFrame p x => cases hx; exact h.transact p _ x
  | responseProduced p =>
    simp only [exec, execResponseProduced] at hx
    split at hx <;> cases hx
    next f response hf hp => exact h.modifyPort (((portsInv_iff.mp h).1 p).takeResponse hf hp)
    all_goals exact h
  | unknownRequest p =>
    simp only [exec, execUnknownRequest] at hx
    split at hx
    next => cases hx; exact h
    next r hr =>
      split at hx <;> cases hx
      · exact h
      · exact h.answer hr _ _
  | openSession p =>
    simp only [exec, execOpenSession, State.serveOpen] at hx
    split at hx
    next => cases hx; exact h
    next r hr =>
      have hat := (State.requestOf_eq_some.mp hr).1
      split at hx <;> cases hx
      · exact h.answer hat _ _
      next q hq =>
        refine PortsInv.answer (h.of_ports_eq (ownOpen_ports s p q) (by simp) ?_) (r := r) ?_ _ _
        · simpa [LoadInv] using h.2.2
        · rw [State.requestAt, ownOpen_ports]; exact hat
  | queryDevice p reads => exact execQueryDevice_portsInv h hx
  | closeSession p | keepalive p | queryClaim p | queryChannel p | profileRead p | claim p | set p | setIf p | renew p
  | release p | transfer p | revoke p | fetch p | clearFault p | resume p | profileStage p | profileCommit p
  | profileDiscard p =>
    exact h.served (fun u who q => by simp) (exec_loadInProgress (by simp) (by simp) hx) hinv hx
  | _ => exact h.of_ports_eq (exec_ports rfl hx) (exec_loadInProgress (by simp) (by simp) hx) hinv

/-- Settles O52: what a port does at a rise goes by the state at the fall, which bounds the state at the rise. -/
theorem portCombinationsKept : Obligations.PortCombinationsKept := by
  unfold Obligations.PortCombinationsKept
  intro s t
  refine step_keeps (P := PortsInv) (fun _ _ h => h) (fun i s t h hx => exec_portsInv h hx) fun s h => ?_
  exact h.of_ports_eq (by simp) (by simp) (loadInv_of_loadStatus_eq h.2.2 s.internalPeriod_loadStatus)

end Sys2Proof.Machine
end

section
/-! PROOFS. The fields of a profile (R132, R139), the profiles of the store in their ranges, and the miss counts below
their limits (R109). -/

-- The whole text compiles close to the check's memory limit, so this part starts no threads of its own.
set_option Elab.async false

namespace Sys2Proof.Machine

/-! ## The fields of a profile -/

theorem ProfileField.mem_all (f : ProfileField) : f ∈ ProfileField.all := by cases f <;> decide

theorem ProfileField.admits_iff {f : ProfileField} {v : Nat} : f.admits v = true ↔ f.range.1 ≤ v ∧ v ≤ f.range.2 :=
  decide_eq_true_iff

theorem Profile.inRange_iff {prof : Profile} :
    prof.inRange = true ↔ ∀ f c, f.range.1 ≤ prof.field f c ∧ prof.field f c ≤ f.range.2 := by
  simp only [Profile.inRange, List.all_eq_true, ProfileField.admits_iff]
  exact ⟨fun h f c => h f f.mem_all c (List.mem_finRange c), fun h f _ c _ => h f c⟩

theorem Profile.consistent_iff {prof : Profile} :
    prof.consistent = true
      ↔ ∀ c, (prof.chans.get c).low ≤ (prof.chans.get c).rest ∧ (prof.chans.get c).rest ≤ (prof.chans.get c).high := by
  simp only [Profile.consistent, List.all_eq_true, ChannelProfile.consistent, decide_eq_true_iff]
  exact ⟨fun h c => h c (List.mem_finRange c), fun h c _ => h c⟩

/-- R141: the limits and the rest value of a channel are in order. -/
theorem ChannelProfile.consistent_iff {k : ChannelProfile} : k.consistent = true ↔ k.low ≤ k.rest ∧ k.rest ≤ k.high :=
  decide_eq_true_iff

theorem Profile.firstInconsistent_eq_none {prof : Profile} : prof.firstInconsistent = none ↔ prof.consistent = true := by
  simp [Profile.firstInconsistent, Profile.consistent]

/-- R139: the named field takes the value; the generation is no field that PROFILE_STAGE sets. -/
theorem Profile.setField_same (prof : Profile) {f : ProfileField} (hf : f ≠ .generation) (c : Chan) (v : Nat) :
    (prof.setField f c v).field f c = v := by
  cases f with
  | generation => exact absurd rfl hf
  | rest | low | high | rate | enable | tolerance | missLimit =>
    simp [Profile.setField, Profile.field, Profile.modifyChan]
  | prescaler | holdoverDivider | holdoverPeriod | ceiling0 | ceiling1 => rfl

theorem Profile.setField_otherField (prof : Profile) {f f' : ProfileField} (hf : f' ≠ f) (c c' : Chan) (v : Nat) :
    (prof.setField f c v).field f' c' = prof.field f' c' := by
  by_cases hc : c' = c
  · subst hc
    cases f <;> cases f' <;>
      first | exact absurd rfl hf | rfl | simp [Profile.setField, Profile.field, Profile.modifyChan]
  · cases f <;> cases f' <;>
      first | exact absurd rfl hf | rfl | simp [Profile.setField, Profile.field, Profile.modifyChan, Table.get_modify_ne _ _ hc]

theorem Profile.setField_otherChan (prof : Profile) {f : ProfileField} (hf : 0x10 ≤ f.id) {c c' : Chan} (hc : c' ≠ c)
    (v : Nat) : (prof.setField f c v).field f c' = prof.field f c' := by
  cases f with
  | rest | low | high | rate | enable | tolerance | missLimit =>
    simp [Profile.setField, Profile.field, Profile.modifyChan, Table.get_modify_ne _ _ hc]
  | prescaler | holdoverDivider | holdoverPeriod | ceiling0 | ceiling1 | generation => exact absurd hf (by decide)

/-- A global field reads the same at every channel. -/
theorem Profile.field_global (prof : Profile) {f : ProfileField} (hf : ¬ 0x10 ≤ f.id) (c c' : Chan) :
    prof.field f c = prof.field f c' := by
  cases f with
  | rest | low | high | rate | enable | tolerance | missLimit => exact absurd (by decide) hf
  | prescaler | holdoverDivider | holdoverPeriod | ceiling0 | ceiling1 | generation => rfl

theorem Profile.setField_inRange {prof : Profile} (h : prof.inRange = true) {f : ProfileField} (hf : f ≠ .generation)
    (c : Chan) {v : Nat} (hv : f.admits v = true) : (prof.setField f c v).inRange = true := by
  refine Profile.inRange_iff.mpr fun f' c' => ?_
  by_cases hff : f' = f
  · subst hff
    by_cases hc : c' = c ∨ ¬ 0x10 ≤ f'.id
    · have hsame : (prof.setField f' c v).field f' c' = v := by
        rcases hc with rfl | hglobal
        · exact prof.setField_same hf c' v
        · rw [Profile.field_global _ hglobal c' c, prof.setField_same hf]
      rw [hsame]
      exact ProfileField.admits_iff.mp hv
    · obtain ⟨hc, hid⟩ := not_or.mp hc
      rw [prof.setField_otherChan (Classical.not_not.mp hid) hc]
      exact Profile.field_inRange h f' c'
  · rw [prof.setField_otherField hff]
    exact Profile.field_inRange h f' c'

theorem Profile.sound.inRange {prof : Profile} (h : prof.sound = true) : prof.inRange = true :=
  (prof.sound_iff.mp h).1

theorem defaultProfile_sound : defaultProfile.sound = true := by
  refine defaultProfile.sound_iff.mpr ⟨Profile.inRange_iff.mpr fun f c => ?_, Profile.consistent_iff.mpr fun c => ?_⟩
  · cases f <;> simp [Profile.field, defaultProfile, ProfileField.range, defaultChannelProfile, Config.defaultPrescaler,
      Config.defaultHoldoverDivider, Config.defaultHoldoverPeriod, Config.defaultCeiling, Config.maxValue,
      Config.defaultTolerance, Config.defaultMissLimit]
  · simp [defaultProfile, defaultChannelProfile]

theorem profileOf_sound {r : List Byte} (h : copyValid r = true) : (profileOf r).sound = true := by
  simp only [copyValid, Bool.and_eq_true] at h
  exact (profileOf r).sound_iff.mpr ⟨h.1.1.2, h.1.2⟩

theorem chooseProfile_sound (a b : List Byte) : (chooseProfile a b).profile.sound = true := by
  unfold chooseProfile
  split
  next ha _ => exact profileOf_sound ha
  next _ hb => exact profileOf_sound hb
  next ha hb => split <;> [exact profileOf_sound hb; exact profileOf_sound ha]
  next => exact defaultProfile_sound

/-- R142: the image of an accepted commit is the staging profile at the next generation, which every profile may hold. -/
theorem ProfileStore.nextImage_sound {st : ProfileStore} (hrange : st.staging.inRange = true)
    (hconsistent : st.staging.consistent = true) : st.nextImage.sound = true := by
  refine st.nextImage.sound_iff.mpr ⟨Profile.inRange_iff.mpr fun f c => ?_, hconsistent⟩
  cases f with
  | generation =>
    have hlt : st.nextImage.generation.toNat < 4294967296 := BitVec.isLt _
    exact ⟨Nat.zero_le _, Nat.le_of_lt_succ hlt⟩
  | _ => exact Profile.field_inRange hrange _ c

/-! ## The profiles of the store -/

/-- R132, R134: the profiles of the store as a run leaves them. -/
def ProfileStore.sound (st : ProfileStore) : Prop :=
  st.active.sound = true ∧ st.staging.inRange = true ∧ (∀ cm ∈ st.commit, cm.image.sound = true)
    ∧ ∀ choice ∈ st.loadChoice, choice.profile.sound = true

theorem ProfileStore.sound.unstaged {st : ProfileStore} (h : st.sound) : { st with staging := st.active }.sound :=
  ⟨h.1, Profile.sound.inRange h.1, h.2.2⟩

theorem ProfileStore.sound.withCopy {st : ProfileStore} (h : st.sound) (copyId : CopyId) (r : List Byte) :
    (st.withCopy copyId r).sound := by cases copyId <;> exact h

theorem ProfileStore.sound.committed {st : ProfileStore} (h : st.sound) {cm : Commit} (hcm : cm.image.sound = true) :
    (st.committed cm).sound :=
  ⟨hcm, Profile.sound.inRange hcm, fun _ hn => (by cases hn), h.2.2.2⟩

theorem ProfileStore.sound.commitFailed {st : ProfileStore} (h : st.sound) : st.commitFailed.sound :=
  ⟨h.1, Profile.sound.inRange h.1, fun _ hn => (by cases hn), h.2.2.2⟩

theorem ProfileStore.sound.loaded {st : ProfileStore} (h : st.sound) {choice : LoadChoice}
    (hc : choice.profile.sound = true) : (st.loaded choice).sound :=
  ⟨hc, Profile.sound.inRange hc, h.2.2.1, fun _ hn => (by cases hn)⟩

theorem State.endSession_storeSound {s : State} (h : s.store.sound) (slot : Slot) (info : SessionInfo) (lapses : Bool) :
    (s.endSession slot info lapses).store.sound := by
  simp only [State.endSession]
  split
  · exact h.unstaged
  · exact h

theorem State.lapseSessions_storeSound {s : State} (h : s.store.sound) : s.lapseSessions.store.sound := by
  have hslot : ∀ (u : State) (slot : Slot), u.store.sound → (u.lapseSlot slot).store.sound := by
    intro u slot hu
    unfold State.lapseSlot
    split
    · split
      · exact u.endSession_storeSound hu slot _ true
      · exact hu
    · exact hu
  unfold State.lapseSessions
  generalize List.finRange 8 = slots
  induction slots generalizing s with
  | nil => exact h
  | cons slot slots ih => exact ih (hslot s slot h)

theorem State.takeTick_storeSound {s : State} (h : s.store.sound) (b : TickTaker) : (s.takeTick b).store.sound := by
  by_cases hb : b = .sessionTable
  · subst hb
    refine State.takeTick_keeps (P := fun u => u.store.sound) (fun _ _ hu => hu) (fun u hu => ?_) h
    have hcounted : u.decrementKeepalives.store.sound := hu
    show (State.lapseSessions _).store.sound
    exact State.lapseSessions_storeSound hcounted
  · rw [s.takeTick_store hb]; exact h

theorem ownProfileStage_storeSound {s : State} (h : s.store.sound) (who : Requester) (q : ProfileStageParams) :
    (ownProfileStage s who q).1.store.sound := by
  unfold ownProfileStage
  split
  next => exact h
  next f hf =>
    split
    · exact h
    next hgen =>
      split
      next hv => exact ⟨h.1, Profile.setField_inRange h.2.1 hgen q.chan hv, h.2.2⟩
      next => exact h

theorem ownProfileCommit_storeSound {s : State} (h : s.store.sound) (who : Requester) (q : Unit) :
    (ownProfileCommit s who q).1.store.sound := by
  unfold ownProfileCommit
  split
  · exact h
  · split
    · exact h
    · split
      next => exact h
      next hnone =>
        refine ⟨h.1, h.2.1, fun cm hcm => ?_, h.2.2.2⟩
        cases hcm
        exact ProfileStore.nextImage_sound h.2.1 (Profile.firstInconsistent_eq_none.mp hnone)

theorem ownProfileDiscard_storeSound {s : State} (h : s.store.sound) (who : Requester) (q : Unit) :
    (ownProfileDiscard s who q).1.store.sound := by
  unfold ownProfileDiscard
  split
  · exact h
  · exact h.unstaged

theorem served_storeSound {α : Type} {s t : State} {p : PortId} {code : RequestCode}
    {decode : List Byte → Except Result α} {maintenanceOnly : Bool} {owner : State → Requester → α → State × Reply}
    (h : s.store.sound) (howner : ∀ u who q, u.store.sound → (owner u who q).1.store.sound)
    (hx : (.next (s.serve p code decode maintenanceOnly owner) : Host.Outcome State Fault Refusal) = .next t) :
    t.store.sound := by
  obtain rfl := Host.Outcome.next.inj hx
  exact State.serve_keeps (P := fun u => u.store.sound) (fun _ _ hu => hu) (fun _ _ _ hu => hu) h p _ _ _ howner

theorem exec_storeSound {i : Instr} {s t : State} (h : s.store.sound) (hx : exec i s = .next t) : t.store.sound := by
  cases i with
  | deviceReset reached flaws =>
    cases hx
    exact ⟨defaultProfile_sound, Profile.sound.inRange defaultProfile_sound, fun _ hn => (by cases hn),
      fun _ hn => (by cases hn)⟩
  | resetEnd =>
    simp only [exec, execResetEnd] at hx
    split at hx <;> cases hx
    · exact ⟨h.1, h.2.1, h.2.2.1, fun choice hc => by cases hc; exact chooseProfile_sound _ _⟩
    · exact h
  | startUpLoadCompletion =>
    simp only [exec, execStartUpLoadCompletion] at hx
    split at hx <;> cases hx
    next choice hchoice => rw [State.completeLoad_store]; exact h.loaded (h.2.2.2 choice hchoice)
    next => exact h
  | closeSession p => exact served_storeSound h (fun u who q hu => u.endSession_storeSound hu who.slot who.info false) hx
  | profileStage p => exact served_storeSound h (fun u who q hu => ownProfileStage_storeSound hu who q) hx
  | profileCommit p => exact served_storeSound h (fun u who q hu => ownProfileCommit_storeSound hu who q) hx
  | profileDiscard p => exact served_storeSound h (fun u who q hu => ownProfileDiscard_storeSound hu who q) hx
  | commitCompletion flaws order =>
    simp only [exec, execCommitCompletion] at hx
    split at hx <;> cases hx
    next cm hcm =>
      rw [State.completeCommit_store]
      split
      · exact (h.withCopy _ _).committed (h.2.2.1 cm hcm)
      · exact (h.withCopy _ _).commitFailed
    next => exact h
  | tick takers =>
    exact execTick_keeps (P := fun u => u.store.sound) (fun _ hu => hu) (fun u b hu => u.takeTick_storeSound hu b) h hx
  | sessionLapse =>
    obtain rfl := Host.Outcome.next.inj hx
    exact State.lapseSessions_storeSound (State.takeTick_storeSound h .sessionTable)
  | _ => rw [exec_store rfl hx]; exact h

/-! ## The miss counts -/

/-- R109: every miss count lies below its limit. -/
def Monitor.missesSound (m : Monitor) : Prop := ∀ c, (m.chans.get c).missCount < (m.chans.get c).missLimit

theorem Monitor.missesSound_of_chans_eq {m n : Monitor} (h : m.missesSound) (he : n.chans = m.chans) : n.missesSound := by
  rw [Monitor.missesSound, he]
  exact h

theorem MonitorChannel.judged_below {mc : MonitorChannel} (h : mc.missCount < mc.missLimit) (within : Bool) :
    (mc.judged within).missCount < (mc.judged within).missLimit := by
  unfold MonitorChannel.judged
  split
  · exact Nat.zero_lt_of_lt h
  · split
    · exact Nat.zero_lt_of_lt h
    next hne => exact lt_of_le_of_ne h hne

theorem monitorSettings_below {prof : Profile} (h : prof.inRange = true) (c : Chan) :
    ((monitorSettings prof).get c).missCount < ((monitorSettings prof).get c).missLimit := by
  have hlimit : 1 ≤ (prof.chans.get c).missLimit := (Profile.field_inRange h .missLimit c).1
  simp only [monitorSettings, Table.get_map]
  exact hlimit

theorem State.changeChannels_monitorChans (s : State) (f : Chan → Channel → Channel) :
    (s.changeChannels f).monitor.chans = s.monitor.chans :=
  (s.monitor.noteOutputs_spec _ _).2.1

theorem Monitor.disturb_chans (m : Monitor) : m.disturb.chans = m.chans := by
  unfold Monitor.disturb
  split <;> rfl

theorem State.deliver_monitorChans (s : State) (prof : Profile) (order : ActivationOrder) :
    (s.deliver prof order).monitor.chans = monitorSettings prof := by
  cases order <;>
    simp [State.deliver, State.activateOutputs, State.activateMonitor, State.activateSupervisor,
      State.changeChannels_monitorChans]

theorem State.completeLoad_monitorChans (s : State) (choice : LoadChoice) :
    (s.completeLoad choice).monitor.chans = monitorSettings choice.profile := by
  simp [State.completeLoad, State.startMonitor]

theorem State.takeTick_monitorChans (s : State) (b : TickTaker) : (s.takeTick b).monitor.chans = s.monitor.chans :=
  State.takeTick_keeps (P := fun u => u.monitor.chans = s.monitor.chans) (fun _ _ hu => hu) (fun u hu => by
    refine Eq.trans ?_ hu
    cases b with
    | outputStage => exact u.changeChannels_monitorChans _
    | readbackMonitor => simp only [State.blockTick, State.searchIfWaiting]; split <;> simp
    | claimTable | sessionTable | supervisor => simp [State.blockTick]) rfl

theorem State.evaluate_missesSound {s : State} (h : s.monitor.missesSound) (cv : Conversion) (input : Int) :
    (s.evaluate cv input).monitor.missesSound := by
  unfold State.evaluate
  dsimp only
  split
  · exact h
  · intro c
    by_cases hc : c = cv.chan
    · subst hc; simpa using MonitorChannel.judged_below (h cv.chan) _
    · simpa [Table.get_set_ne _ _ hc] using h c

theorem State.clearFault_missesSound {s : State} (h : s.monitor.missesSound) (c : Chan) :
    (s.clearFault c).monitor.missesSound := by
  refine Monitor.missesSound_of_chans_eq (m := s.monitor.clearMisses c) (fun d => ?_) ?_
  · by_cases hd : d = c
    · subst hd; simpa [Monitor.clearMisses] using Nat.zero_lt_of_lt (h d)
    · simpa [Monitor.clearMisses, Table.get_modify_ne _ _ hd] using h d
  · simp only [State.clearFault, State.notices_monitor, State.takeFaultNotice_monitor]
    exact State.changeChannels_monitorChans _ _

theorem ownClearFault_missesSound {s : State} (h : s.monitor.missesSound) (who : Requester) (c : Chan) :
    (ownClearFault s who c).1.monitor.missesSound := by
  unfold ownClearFault
  repeat' split
  · exact h
  · exact h
  · exact s.clearFault_missesSound h c

theorem exec_missesSound {i : Instr} {s t : State} (hstore : s.store.sound) (h : s.monitor.missesSound)
    (hx : exec i s = .next t) : t.monitor.missesSound := by
  cases i with
  | deviceReset reached flaws =>
    cases hx
    intro c
    simp [State.atReset, resetMonitor, Config.defaultMissLimit]
  | startUpLoadCompletion =>
    simp only [exec, execStartUpLoadCompletion] at hx
    split at hx <;> cases hx
    next choice hchoice =>
      intro c
      rw [State.completeLoad_monitorChans]
      exact monitorSettings_below (Profile.sound.inRange (hstore.2.2.2 choice hchoice)) c
    next => exact h
  | commitCompletion flaws order =>
    simp only [exec, execCommitCompletion] at hx
    split at hx <;> cases hx
    next cm hcm =>
      unfold State.completeCommit
      split
      · intro c
        rw [State.deviceNotice_monitor, State.deliver_monitorChans]
        exact monitorSettings_below (Profile.sound.inRange (hstore.2.2.1 cm hcm)) c
      · exact h
    next => exact h
  | clearFault p =>
    obtain rfl := Host.Outcome.next.inj hx
    exact State.serve_keeps (P := fun u => u.monitor.missesSound) (fun _ _ hu => hu) (fun _ _ _ hu => hu) h p _ _ _
      fun u who c hu => ownClearFault_missesSound hu who c
  | tick takers =>
    exact execTick_keeps (P := fun u => u.monitor.missesSound) (fun _ hu => hu)
      (fun u b hu => Monitor.missesSound_of_chans_eq hu (u.takeTick_monitorChans b)) h hx
  | conversionCompletion input =>
    simp only [exec, execConversionCompletion] at hx
    split at hx <;> cases hx
    · exact Monitor.missesSound_of_chans_eq (State.evaluate_missesSound h _ input) (State.search_chans _)
    all_goals exact h
  | channelFault c =>
    simp only [exec, execChannelFault] at hx
    split at hx <;> cases hx
    · exact Monitor.missesSound_of_chans_eq h (State.changeChannels_monitorChans _ _)
    · exact h
  | topReport c | valueReport c =>
    simp only [exec, execTopReport, execValueReport] at hx
    split at hx <;> cases hx
    all_goals first | exact h | exact Monitor.missesSound_of_chans_eq h (State.changeChannels_monitorChans _ _)
  | quiescenFall =>
    simp only [exec, execQuiescenFall] at hx
    split at hx
    · cases hx; exact h
    · split at hx <;> cases hx
      · exact h
      · exact Monitor.missesSound_of_chans_eq h
          ((Monitor.disturb_chans _).trans (State.changeChannels_monitorChans _ _))
  | quiescenRise =>
    simp only [exec, execQuiescenRise] at hx
    split at hx
    · cases hx; exact h
    · split at hx <;> cases hx
      · exact h
      · exact Monitor.missesSound_of_chans_eq h (State.changeChannels_monitorChans _ _)
  | _ => rw [exec_monitor rfl hx]; exact h

/-- Settles O59: every profile that can become active was checked on its way, and a count at its limit returns to 0. -/
theorem profilesStayInRange : Obligations.ProfilesStayInRange := by
  unfold Obligations.ProfilesStayInRange
  refine ⟨fun s t => ?_, fun s t => ?_⟩
  · exact step_keeps (P := ProfilesInv) (fun _ _ h => h) (fun i s t h hx => exec_storeSound h hx) fun s h => by
      rw [ProfilesInv, s.internalPeriod_store]; exact h
  · exact step_keeps (P := MissesInv) (fun _ _ h => h)
      (fun i s t h hx => ⟨exec_storeSound h.1 hx, exec_missesSound h.1 h.2 hx⟩) fun s h => by
        rw [MissesInv, ProfilesInv, s.internalPeriod_store, s.internalPeriod_monitor]; exact h

end Sys2Proof.Machine
end

section
/-! PROOFS. The supervisor's counts (R115, R117, R118, R121), kept by each change of the supervisor. -/

-- The whole text compiles close to the check's memory limit, so this part starts no threads of its own.
set_option Elab.async false

namespace Sys2Proof.Machine

/-! ## The changes of the supervisor once the load has ended, or before it has -/

/-- One change of the supervisor, but for device reset, the end of the load and an activation. -/
inductive SupervisorChange : Supervisor → Supervisor → Prop
  /-- R116 -/
  | edge (u : Supervisor) : SupervisorChange u { u with edgeCount := min Config.goodEdges (u.edgeCount + 1) }
  /-- R118 -/
  | divide (u : Supervisor) (source : TickSource) : SupervisorChange u (u.divided source)
  /-- R118: the tick of a TICK -/
  | restart (u : Supervisor) : SupervisorChange u { u with dividerCount := 0 }
  /-- R116 -/
  | period (u : Supervisor) (hpos : u.windowPos + 1 < Config.windowPeriods) :
      SupervisorChange u { u with windowPos := u.windowPos + 1 }
  /-- R116, R117, R122, R123 -/
  | window (u : Supervisor) : SupervisorChange u u.afterWindow
  /-- R127 -/
  | resume (u : Supervisor) (hstate : u.state = .holdover ∨ u.state = .lapsed) (href : u.refPresent = true) :
      SupervisorChange u u.locked
  /-- R122, R124, R125 -/
  | countDown (u : Supervisor) : SupervisorChange u u.countedDown
  /-- R125 -/
  | lapse (u : Supervisor) : SupervisorChange u u.lapseIfOut

/-- Any number of changes, one after the other. -/
abbrev SupervisorChanges : Supervisor → Supervisor → Prop := Relation.ReflTransGen SupervisorChange

theorem State.takeTick_supervisorChanges (s : State) (b : TickTaker) :
    SupervisorChanges s.supervisor (s.takeTick b).supervisor := by
  by_cases hb : b = .supervisor
  · subst hb
    refine State.takeTick_keeps (P := fun u => SupervisorChanges s.supervisor u.supervisor) (fun _ _ hu => hu)
      (fun u hu => hu.tail ?_) .refl
    have hcount : (u.blockTick .supervisor).supervisor = u.supervisor.countedDown := u.countDown_supervisor
    rw [hcount]
    exact .countDown _
  · rw [s.takeTick_supervisor hb]

theorem ownResume_supervisorChanges (s : State) (who : Requester) (q : Unit) :
    SupervisorChanges s.supervisor (ownResume s who q).1.supervisor := by
  unfold ownResume
  cases hs : s.supervisor.state with
  | starting => exact .refl
  | locked => exact .refl
  | holdover | lapsed =>
    dsimp only
    split
    next href => exact .single (.resume _ (by simp [hs]) href)
    next => exact .refl

theorem exec_supervisorChanges {i : Instr} {s t : State} (hreset : ∀ reached flaws, i ≠ .deviceReset reached flaws)
    (hload : i ≠ .startUpLoadCompletion) (hcommit : ∀ flaws order, i ≠ .commitCompletion flaws order)
    (hx : exec i s = .next t) : SupervisorChanges s.supervisor t.supervisor := by
  cases i with
  | deviceReset reached flaws => exact absurd rfl (hreset reached flaws)
  | startUpLoadCompletion => exact absurd rfl hload
  | commitCompletion flaws order => exact absurd rfl (hcommit flaws order)
  | resume p =>
    obtain rfl := Host.Outcome.next.inj hx
    exact State.serve_keeps (P := fun u => SupervisorChanges s.supervisor u.supervisor) (fun _ _ hu => hu)
      (fun _ _ _ hu => hu) .refl p _ _ _ fun u who q hu => hu.trans (ownResume_supervisorChanges u who q)
  | windowEnd =>
    simp only [exec, execWindowEnd] at hx
    split at hx <;> cases hx
    · exact .refl
    · rw [s.windowEnd_supervisor]; exact .single (.window _)
  | tick takers =>
    exact execTick_keeps (P := fun u => SupervisorChanges s.supervisor u.supervisor) (fun u hu => hu.tail (.restart _))
      (fun u b hu => hu.trans (u.takeTick_supervisorChanges b)) .refl hx
  | lapsedEntry =>
    obtain rfl := Host.Outcome.next.inj hx
    rw [State.lapseIfOut_supervisor]
    exact (s.takeTick_supervisorChanges .supervisor).tail (.lapse _)
  | refclkEdge =>
    simp only [exec, execRefclkEdge] at hx
    split at hx <;> cases hx
    · exact .refl
    · rw [State.countDivider_supervisor]; exact (Relation.ReflTransGen.single (.edge _)).tail (.divide _ _)
  | _ => rw [exec_supervisor rfl hx]

theorem State.internalPeriod_supervisorChanges (s : State) : SupervisorChanges s.supervisor s.internalPeriod.supervisor := by
  unfold State.internalPeriod
  split
  · exact .refl
  · have hdivided : SupervisorChanges s.supervisor (s.carrierPeriod.countDivider .internalPeriods).supervisor := by
      rw [State.countDivider_supervisor]
      exact .single (.divide _ _)
    unfold State.windowPeriod
    split
    next hpos => exact hdivided.tail (.period _ hpos)
    next => rw [State.windowEnd_supervisor]; exact hdivided.tail (.window _)

/-! ## The states and the counts of the window -/

/-- R115, R117, R121: the supervisor as a run leaves it, while the load is in progress or not. -/
def Supervisor.sound (u : Supervisor) (loading : Bool) : Prop :=
  u.counted
    ∧ (u.producing = true →
        (u.source = .refclkEdges ↔ u.state = .locked) ∧ (u.state = .locked → u.refPresent = true)
          ∧ (u.state = .starting → u.refPresent = false)
          ∧ (u.holdoverRemaining.isSome = true ↔ u.state = .starting ∨ u.state = .holdover))
    ∧ (u.producing = false → u.state = .starting ∧ u.holdoverRemaining = none)
    ∧ (u.producing = true ↔ loading = false)

theorem supervisorInv_iff {s : State} :
    SupervisorInv s ↔ s.supervisor.sound s.store.loadInProgress ∧ LoadInv s := by
  simp only [SupervisorInv, Supervisor.sound, and_assoc]

theorem Supervisor.goodWindow_iff {u : Supervisor} : u.goodWindow = true ↔ u.edgeCount = 4 := decide_eq_true_iff

theorem Supervisor.setsReference_iff {u : Supervisor} :
    u.setsReference = true ↔ u.edgeCount = 4 ∧ u.goodRun = 15 := by
  simp [Supervisor.setsReference, Supervisor.goodWindow_iff, Config.goodRunFull]

theorem Supervisor.windowEnded_counted {u : Supervisor} (h : u.counted) : u.windowEnded.counted := by
  obtain ⟨-, -, hrun, href⟩ := h
  refine ⟨by simp [Supervisor.windowEnded, Config.windowPeriods], Nat.zero_le _, ?_, ?_⟩
  all_goals
    simp only [Supervisor.windowEnded]
    cases hgood : u.goodWindow with
    | false => simp [Config.goodRunFull]
    | true =>
      simp only [if_true, Bool.or_eq_true, Supervisor.setsReference_iff, href, Config.goodRunFull] at hrun ⊢
      have hedges := Supervisor.goodWindow_iff.mp hgood
      omega

theorem Supervisor.windowEnded_refPresent (u : Supervisor) :
    u.windowEnded.refPresent = true ↔ u.goodWindow = true ∧ (u.refPresent = true ∨ u.setsReference = true) := by
  cases hgood : u.goodWindow <;> simp [Supervisor.windowEnded, hgood]

theorem Supervisor.sound.afterWindow {u : Supervisor} {loading : Bool} (h : u.sound loading) :
    u.afterWindow.sound loading := by
  have hpresent := u.windowEnded_refPresent
  obtain ⟨hcounted, hon, hoff, hload⟩ := h
  have hended := Supervisor.windowEnded_counted hcounted
  unfold Supervisor.afterWindow
  split
  next hset =>
    obtain ⟨hproducing, hstate, hsets⟩ := hset
    have hgood : u.goodWindow = true := Supervisor.goodWindow_iff.mpr (Supervisor.setsReference_iff.mp hsets).1
    refine ⟨hended, fun _ => ⟨by simp [Supervisor.locked], fun _ => hpresent.mpr ⟨hgood, .inr hsets⟩, fun hs => ?_, ?_⟩,
      fun hp => absurd (hproducing.symm.trans hp) (by decide), hload⟩
    · cases hs
    · simp [Supervisor.locked]
  next hset =>
    split
    next hlost =>
      obtain ⟨hproducing, hstate, hgood⟩ := hlost
      exact ⟨hended, fun _ => ⟨by simp [Supervisor.heldOver], fun hs => (by cases hs), fun hs => (by cases hs),
        by simp [Supervisor.heldOver]⟩, fun hp => absurd (hproducing.symm.trans hp) (by decide), hload⟩
    next hlost =>
      refine ⟨hended, fun hproducing => ?_, hoff, hload⟩
      obtain ⟨hsource, hlocked, hstarting, hcountdown⟩ := hon hproducing
      refine ⟨hsource, fun hs => hpresent.mpr ?_, fun hs => ?_, hcountdown⟩
      · refine ⟨?_, .inl (hlocked hs)⟩
        cases hgood : u.goodWindow with
        | true => rfl
        | false => exact absurd ⟨hproducing, hs, hgood⟩ hlost
      · refine Bool.eq_false_iff.mpr fun hp => ?_
        rcases (hpresent.mp hp).2 with hr | hsets
        · exact absurd ((hstarting hs).symm.trans hr) (by decide)
        · exact hset ⟨hproducing, hs, hsets⟩

theorem Supervisor.sound.lapseIfOut {u : Supervisor} {loading : Bool} (h : u.sound loading) :
    u.lapseIfOut.sound loading := by
  unfold Supervisor.lapseIfOut
  split
  next hout =>
    obtain ⟨hcounted, hon, hoff, hload⟩ := h
    simp only [Supervisor.holdoverOut, Bool.and_eq_true, Bool.or_eq_true, beq_iff_eq] at hout
    refine ⟨hcounted, fun hproducing => ⟨?_, fun hs => (by cases hs), fun hs => (by cases hs), ?_⟩, fun hp => ?_, hload⟩
    · have hsource := (hon hproducing).1
      rcases hout.1 with hs | hs <;> simpa [Supervisor.lapsedNow, hs] using hsource
    · simp [Supervisor.lapsedNow]
    · rw [(hoff hp).2] at hout
      cases hout.2
  next => exact h

/-- A change that leaves the state, the source, the reference and the presence of a countdown leaves the rule. -/
theorem Supervisor.sound.of_same {u v : Supervisor} {loading : Bool} (h : u.sound loading) (hcounted : v.counted)
    (hstate : v.state = u.state) (hsource : v.source = u.source) (href : v.refPresent = u.refPresent)
    (hproducing : v.producing = u.producing) (hcount : v.holdoverRemaining.isSome = u.holdoverRemaining.isSome) :
    v.sound loading := by
  obtain ⟨-, hon, hoff, hload⟩ := h
  refine ⟨hcounted, ?_, fun hp => ?_, hproducing ▸ hload⟩
  · rw [hproducing, hstate, hsource, href, hcount]; exact hon
  · obtain ⟨hs, hn⟩ := hoff (hproducing ▸ hp)
    refine ⟨hstate.trans hs, ?_⟩
    rw [hn] at hcount
    simpa using hcount

theorem SupervisorChange.sound {u v : Supervisor} {loading : Bool} (hc : SupervisorChange u v) (h : u.sound loading) :
    v.sound loading := by
  obtain ⟨hpos, hedges, hrun, href⟩ := h.1
  cases hc with
  | edge => exact h.of_same ⟨hpos, Nat.min_le_left _ _, hrun, href⟩ rfl rfl rfl rfl rfl
  | divide source =>
    unfold Supervisor.divided
    split
    · exact h.of_same ⟨hpos, hedges, hrun, href⟩ rfl rfl rfl rfl rfl
    · exact h
  | restart => exact h.of_same ⟨hpos, hedges, hrun, href⟩ rfl rfl rfl rfl rfl
  | period hnext => exact h.of_same ⟨hnext, hedges, hrun, href⟩ rfl rfl rfl rfl rfl
  | window => exact h.afterWindow
  | resume hstate hpresent =>
    obtain ⟨hcounted, -, hoff, hload⟩ := h
    refine ⟨hcounted, fun _ => ⟨by simp [Supervisor.locked], fun _ => hpresent, fun hs => (by cases hs),
      by simp [Supervisor.locked]⟩, fun hp => ?_, hload⟩
    rcases hstate with hs | hs <;> exact absurd (hs.symm.trans (hoff hp).1) (by decide)
  | countDown =>
    refine Supervisor.sound.lapseIfOut (u := { u with holdoverRemaining := u.holdoverRemaining.map (· - 1) }) ?_
    exact h.of_same ⟨hpos, hedges, hrun, href⟩ rfl rfl rfl rfl (by simp)
  | lapse => exact h.lapseIfOut

theorem Supervisor.sound.changes {u v : Supervisor} {loading : Bool} (h : u.sound loading) (hc : SupervisorChanges u v) :
    v.sound loading := by
  induction hc with
  | refl => exact h
  | tail _ hlast ih => exact hlast.sound ih

theorem Supervisor.sound.started {u : Supervisor} (h : u.sound true) (prof : Profile) : (u.started prof).sound false := by
  obtain ⟨hcounted, -, hoff, hload⟩ := h
  have hwait : u.producing = false := by simpa using hload
  obtain ⟨-, hcountdown⟩ := hoff hwait
  unfold Supervisor.started
  cases hpresent : u.refPresent <;>
    exact ⟨hcounted, by simp [Supervisor.settings, hpresent, hcountdown], by simp, by simp⟩

theorem Supervisor.sound.activated {u : Supervisor} {loading : Bool} (h : u.sound loading) (prof : Profile) :
    (u.activated prof).sound loading :=
  h.of_same h.1 rfl rfl rfl rfl (by simp [Supervisor.activated])

theorem resetSupervisor_sound : resetSupervisor.sound true := by
  refine ⟨?_, ?_, ?_, ?_⟩ <;>
    simp [Supervisor.counted, resetSupervisor, Config.windowPeriods, Config.goodRunFull]

theorem exec_supervisorSound {i : Instr} {s t : State} (h : s.supervisor.sound s.store.loadInProgress) (hinv : LoadInv s)
    (hx : exec i s = .next t) : t.supervisor.sound t.store.loadInProgress := by
  cases i with
  | deviceReset reached flaws => cases hx; exact resetSupervisor_sound
  | startUpLoadCompletion =>
    simp only [exec, execStartUpLoadCompletion] at hx
    split at hx <;> cases hx
    next choice hchoice =>
      rw [hinv.1 (by simp [hchoice])] at h
      rw [State.completeLoad_supervisor, State.completeLoad_store]
      exact h.started choice.profile
    next => exact h
  | commitCompletion flaws order =>
    rw [exec_loadInProgress (by simp) (by simp) hx]
    simp only [exec, execCommitCompletion] at hx
    split at hx <;> cases hx
    · rw [State.completeCommit_supervisor]
      split
      · exact h.activated _
      · exact h
    · exact h
  | _ =>
    rw [exec_loadInProgress (by simp) (by simp) hx]
    exact h.changes (exec_supervisorChanges (by simp) (by simp) (by simp) hx)

/-! ## The divider and the countdown -/

/-- R115, R118: the settings are at least 1, the divider count lies below the division in force, and holdover remaining
between 1 and the holdover period. -/
def Supervisor.ranged (u : Supervisor) : Prop :=
  1 ≤ u.prescaler ∧ 1 ≤ u.holdoverDivider ∧ 1 ≤ u.holdoverPeriod ∧ u.dividerCount < u.presentDivision
    ∧ ∀ n ∈ u.holdoverRemaining, 1 ≤ n ∧ n ≤ u.holdoverPeriod

theorem Supervisor.division_eq (u : Supervisor) : u.division = u.presentDivision := by
  unfold Supervisor.division Supervisor.presentDivision
  cases u.source <;> simp

theorem Supervisor.ranged.division_pos {u : Supervisor} (h : u.ranged) : 0 < u.presentDivision := Nat.zero_lt_of_lt h.2.2.2.1

/-- R125: a supervisor counted down to 0 lapses at once. -/
theorem Supervisor.sound.countedDown_ranged {u : Supervisor} {loading : Bool} (h : u.sound loading) (hr : u.ranged) :
    u.countedDown.ranged := by
  obtain ⟨hpre, hdiv, hperiod, hcount, hremaining⟩ := hr
  unfold Supervisor.countedDown Supervisor.lapseIfOut
  split
  next => exact ⟨hpre, hdiv, hperiod, hcount, fun n hn => by cases hn⟩
  next hout =>
    refine ⟨hpre, hdiv, hperiod, hcount, fun n hn => ?_⟩
    obtain ⟨m, hm, rfl⟩ := Option.map_eq_some_iff.mp hn
    obtain ⟨hone, hle⟩ := hremaining m hm
    have hcountdown : u.state = .starting ∨ u.state = .holdover := by
      obtain ⟨-, hon, hoff, -⟩ := h
      cases hp : u.producing with
      | true => exact (hon hp).2.2.2.mp (by simp [hm])
      | false => exact .inl (hoff hp).1
    have hleft : m - 1 ≠ 0 := fun hz => hout (by
      rcases hcountdown with hs | hs <;> simp [Supervisor.holdoverOut, hs, hm, hz])
    exact ⟨Nat.one_le_iff_ne_zero.mpr hleft, (Nat.sub_le m 1).trans hle⟩

theorem SupervisorChange.ranged {u v : Supervisor} {loading : Bool} (hc : SupervisorChange u v) (h : u.sound loading)
    (hr : u.ranged) : v.ranged := by
  have hcounted := h.countedDown_ranged hr
  have hpos := hr.division_pos
  obtain ⟨hpre, hdiv, hperiod, hcount, hremaining⟩ := hr
  cases hc with
  | edge => exact ⟨hpre, hdiv, hperiod, hcount, hremaining⟩
  | divide source =>
    unfold Supervisor.divided
    split
    · refine ⟨hpre, hdiv, hperiod, ?_, hremaining⟩
      show (if u.division ≤ u.dividerCount + 1 then 0 else u.dividerCount + 1) < u.presentDivision
      rw [u.division_eq]
      split
      · exact hpos
      next hlt => exact Nat.lt_of_not_le hlt
    · exact ⟨hpre, hdiv, hperiod, hcount, hremaining⟩
  | restart => exact ⟨hpre, hdiv, hperiod, hpos, hremaining⟩
  | period hnext => exact ⟨hpre, hdiv, hperiod, hcount, hremaining⟩
  | window =>
    unfold Supervisor.afterWindow
    split
    · exact ⟨hpre, hdiv, hperiod, hpre, fun n hn => by cases hn⟩
    · split
      · exact ⟨hpre, hdiv, hperiod, hdiv, fun n hn => by cases hn; exact ⟨hperiod, le_rfl⟩⟩
      · exact ⟨hpre, hdiv, hperiod, hcount, hremaining⟩
  | resume hstate hpresent => exact ⟨hpre, hdiv, hperiod, hpre, fun n hn => by cases hn⟩
  | countDown => exact hcounted
  | lapse =>
    unfold Supervisor.lapseIfOut
    split
    · exact ⟨hpre, hdiv, hperiod, hcount, fun n hn => by cases hn⟩
    · exact ⟨hpre, hdiv, hperiod, hcount, hremaining⟩

theorem Supervisor.ranged.changes {u v : Supervisor} {loading : Bool} (hr : u.ranged) (h : u.sound loading)
    (hc : SupervisorChanges u v) : v.ranged := by
  induction hc with
  | refl => exact hr
  | tail hfirst hlast ih => exact hlast.ranged (h.changes hfirst) ih

/-- The three settings of a profile in range are at least 1. -/
theorem Profile.settings_pos {prof : Profile} (h : prof.inRange = true) :
    1 ≤ prof.prescaler ∧ 1 ≤ prof.holdoverDivider ∧ 1 ≤ prof.holdoverPeriod :=
  ⟨(Profile.field_inRange h .prescaler 0).1, (Profile.field_inRange h .holdoverDivider 0).1,
    (Profile.field_inRange h .holdoverPeriod 0).1⟩

theorem Supervisor.started_ranged {u : Supervisor} {prof : Profile} (h : prof.inRange = true)
    (hn : u.holdoverRemaining = none) : (u.started prof).ranged := by
  obtain ⟨hpre, hdiv, hperiod⟩ := Profile.settings_pos h
  unfold Supervisor.started
  split
  · exact ⟨hpre, hdiv, hperiod, hpre, fun n hr => by simp [Supervisor.settings, hn] at hr⟩
  · exact ⟨hpre, hdiv, hperiod, hdiv, fun n hr => by cases hr; exact ⟨hperiod, le_rfl⟩⟩

theorem Supervisor.ranged.activated {u : Supervisor} (hr : u.ranged) {prof : Profile} (h : prof.inRange = true) :
    (u.activated prof).ranged := by
  obtain ⟨hpre, hdiv, hperiod⟩ := Profile.settings_pos h
  obtain ⟨-, -, -, -, hremaining⟩ := hr
  refine ⟨hpre, hdiv, hperiod, ?_, fun n hn => ?_⟩
  · show 0 < if u.source = .refclkEdges then prof.prescaler else prof.holdoverDivider
    split <;> assumption
  · obtain ⟨m, hm, rfl⟩ := Option.map_eq_some_iff.mp hn
    exact ⟨Nat.le_min.mpr ⟨hperiod, (hremaining m hm).1⟩, Nat.min_le_left _ _⟩

theorem resetSupervisor_ranged : resetSupervisor.ranged := by
  refine ⟨?_, ?_, ?_, ?_, fun n hn => by cases hn⟩ <;>
    simp [resetSupervisor, Config.defaultPrescaler, Config.defaultHoldoverDivider, Config.defaultHoldoverPeriod,
      Supervisor.presentDivision]

theorem exec_supervisorRanged {i : Instr} {s t : State} (h : s.supervisor.sound s.store.loadInProgress) (hinv : LoadInv s)
    (hstore : s.store.sound) (hr : s.supervisor.ranged) (hx : exec i s = .next t) : t.supervisor.ranged := by
  cases i with
  | deviceReset reached flaws => cases hx; exact resetSupervisor_ranged
  | startUpLoadCompletion =>
    simp only [exec, execStartUpLoadCompletion] at hx
    split at hx <;> cases hx
    next choice hchoice =>
      obtain ⟨-, -, hoff, hload⟩ := h
      have hloading := hinv.1 (by simp [hchoice])
      rw [State.completeLoad_supervisor]
      exact Supervisor.started_ranged (Profile.sound.inRange (hstore.2.2.2 choice hchoice)) (hoff (by simpa [hloading] using hload)).2
    next => exact hr
  | commitCompletion flaws order =>
    simp only [exec, execCommitCompletion] at hx
    split at hx <;> cases hx
    next cm hcm =>
      rw [State.completeCommit_supervisor]
      split
      · exact hr.activated (Profile.sound.inRange (hstore.2.2.1 cm hcm))
      · exact hr
    next => exact hr
  | _ => exact hr.changes h (exec_supervisorChanges (by simp) (by simp) (by simp) hx)

theorem countsInv_iff {s : State} : CountsInv s ↔ SupervisorInv s ∧ s.store.sound ∧ s.supervisor.ranged := by
  simp only [CountsInv, ProfilesInv, ProfileStore.sound, Supervisor.ranged, and_assoc]

/-- Settles O58: each change of the supervisor restarts the counts it puts out of their range. -/
theorem supervisorCountsKept : Obligations.SupervisorCountsKept := by
  unfold Obligations.SupervisorCountsKept
  have hexec : ∀ (i : Instr) (s t : State), SupervisorInv s → exec i s = .next t → SupervisorInv t := by
    intro i s t h hx
    obtain ⟨hsound, hinv⟩ := supervisorInv_iff.mp h
    exact supervisorInv_iff.mpr ⟨exec_supervisorSound hsound hinv hx, exec_loadInv hinv hx⟩
  have hperiod : ∀ s : State, SupervisorInv s → SupervisorInv s.internalPeriod := by
    intro s h
    obtain ⟨hsound, hinv⟩ := supervisorInv_iff.mp h
    rw [supervisorInv_iff, s.internalPeriod_store]
    exact ⟨hsound.changes s.internalPeriod_supervisorChanges, loadInv_of_loadStatus_eq hinv s.internalPeriod_loadStatus⟩
  refine ⟨fun s t => step_keeps (P := SupervisorInv) (fun _ _ h => h) hexec hperiod, fun s t => ?_⟩
  refine step_keeps (P := CountsInv) (fun _ _ h => h) (fun i s t h hx => ?_) fun s h => ?_
  · obtain ⟨hsup, hstore, hr⟩ := countsInv_iff.mp h
    obtain ⟨hsound, hinv⟩ := supervisorInv_iff.mp hsup
    exact countsInv_iff.mpr ⟨hexec i s t hsup hx, exec_storeSound hstore hx, exec_supervisorRanged hsound hinv hstore hr hx⟩
  · obtain ⟨hsup, hstore, hr⟩ := countsInv_iff.mp h
    obtain ⟨hsound, -⟩ := supervisorInv_iff.mp hsup
    refine countsInv_iff.mpr ⟨hperiod s hsup, ?_, hr.changes hsound s.internalPeriod_supervisorChanges⟩
    rw [s.internalPeriod_store]
    exact hstore

end Sys2Proof.Machine
end

section
/-! PROOFS. The settings of the active profile at every block, and the targets of the channels not held at rest (R87,
R98, R136, R144). -/

-- The whole text compiles close to the check's memory limit, so this part starts no threads of its own.
set_option Elab.async false

namespace Sys2Proof.Machine

/-! ## The changes of the output stage -/

/-- One change of a channel record, but for device reset, the end of the load, an activation and a quiesce. -/
inductive ChannelChange (quiesced : Bool) (ch : Channel) : Channel → Prop
  | kept : ChannelChange quiesced ch ch
  /-- R86 -/
  | report (r : Report) : ChannelChange quiesced ch (ch.whenEnabled (Channel.takeReport · r quiesced))
  /-- R95 -/
  | fault : ChannelChange quiesced ch (ch.whenEnabled Channel.takeFault)
  /-- R97 -/
  | clear : ChannelChange quiesced ch (ch.clearFault quiesced)
  /-- R89 -/
  | ramp : ChannelChange quiesced ch (ch.whenEnabled Channel.rampTick)
  /-- R85 -/
  | latch : ChannelChange quiesced ch { ch with latched := ch.output }

/-- One change of the output stage, but for device reset, the end of the load and an activation. -/
inductive OutputsChange (o : OutputStage) : OutputStage → Prop
  | channels (carrier : Nat) (chans : Table 48 Channel)
      (hchans : ∀ c, ChannelChange o.quiesced (o.chans.get c) (chans.get c)) :
      OutputsChange o { o with carrier := carrier, chans := chans }
  /-- R92 -/
  | quiesce : OutputsChange o ⟨true, o.chans.mapIdx fun _ => Channel.whenEnabled Channel.stepToRest, o.carrier⟩
  /-- R93 -/
  | unquiesce : OutputsChange o ⟨false, o.chans.mapIdx fun _ => Channel.whenEnabled (Channel.retarget · false), o.carrier⟩

/-- Any number of changes, one after the other. -/
abbrev OutputsChanges : OutputStage → OutputStage → Prop := Relation.ReflTransGen OutputsChange

theorem State.changeChannel_outputsChange (s : State) (c : Chan) {f : Channel → Channel}
    (hf : ChannelChange s.outputs.quiesced (s.outputs.chans.get c) (f (s.outputs.chans.get c))) :
    OutputsChange s.outputs (s.changeChannel c f).outputs := by
  refine .channels s.outputs.carrier (s.changeChannel c f).outputs.chans fun d => ?_
  rw [State.changeChannel_get]
  split
  next hd => subst hd; exact hf
  next => exact .kept

/-- The commands that reach the output stage. -/
def changesOutputs : Instr → Bool
  | .deviceReset _ _ | .startUpLoadCompletion | .clearFault _ | .commitCompletion _ _ | .tick _ | .channelFault _
  | .topReport _ | .valueReport _ | .quiescenFall | .quiescenRise => true
  | _ => false

theorem exec_outputs {i : Instr} {s t : State} (hi : changesOutputs i = false) (hx : exec i s = .next t) :
    t.outputs = s.outputs := by
  cases i with
  | submit _ _ | collect _ _ | peek _ _ | clear _ _ | unknownFrame _ _ | responseProduced _ | unknownRequest _
  | keepalive _ | queryClaim _ | queryChannel _ | queryDevice _ _ | profileRead _ =>
    rw [exec_linkChange rfl hx]
  | openSession p => cases hx; exact s.serveOpen_outputs p
  | closeSession p | claim p | set p | setIf p | renew p | release p | transfer p | revoke p | fetch p | resume p
  | profileStage p | profileCommit p | profileDiscard p => exact served_outputs (fun u who q => by simp) hx
  | resetEnd => exact execResetEnd_outputs hx
  | windowEnd => exact execWindowEnd_outputs hx
  | leaseExpiry => exact execLeaseExpiry_outputs hx
  | sessionLapse => exact execSessionLapse_outputs hx
  | lapsedEntry => exact execLapsedEntry_outputs hx
  | conversionCompletion input => exact execConversionCompletion_outputs hx
  | faultNotice c => cases hx; exact s.takeFaultNotice_outputs c
  | refclkEdge => exact execRefclkEdge_outputs hx
  | _ => cases hi

theorem State.takeTick_outputsChanges (s : State) (b : TickTaker) : OutputsChanges s.outputs (s.takeTick b).outputs := by
  by_cases hb : b = .outputStage
  · subst hb
    refine State.takeTick_keeps (P := fun u => OutputsChanges s.outputs u.outputs) (fun _ _ hu => hu)
      (fun u hu => hu.tail (.channels u.outputs.carrier u.rampChannels.outputs.chans fun c => ?_)) .refl
    rw [State.rampChannels, State.changeChannels_get]
    exact .ramp
  · rw [s.takeTick_outputs hb]

theorem State.clearFault_outputsChange (s : State) (c : Chan) : OutputsChange s.outputs (s.clearFault c).outputs := by
  rw [State.clearFault, State.notices_outputs, State.takeFaultNotice_outputs]
  exact State.changeChannel_outputsChange { s with monitor := s.monitor.clearMisses c } c .clear

theorem exec_outputsChanges {i : Instr} {s t : State} (hreset : ∀ reached flaws, i ≠ .deviceReset reached flaws)
    (hload : i ≠ .startUpLoadCompletion) (hcommit : ∀ flaws order, i ≠ .commitCompletion flaws order)
    (hx : exec i s = .next t) : OutputsChanges s.outputs t.outputs := by
  cases i with
  | deviceReset reached flaws => exact absurd rfl (hreset reached flaws)
  | startUpLoadCompletion => exact absurd rfl hload
  | commitCompletion flaws order => exact absurd rfl (hcommit flaws order)
  | clearFault p =>
    obtain rfl := Host.Outcome.next.inj hx
    refine State.serve_keeps (P := fun u => OutputsChanges s.outputs u.outputs) (fun _ _ hu => hu) (fun _ _ _ hu => hu)
      .refl p _ _ _ fun u who c hu => hu.trans ?_
    unfold ownClearFault
    repeat' split
    · exact .refl
    · exact .refl
    · exact .single (u.clearFault_outputsChange c)
  | tick takers =>
    exact execTick_keeps (P := fun u => OutputsChanges s.outputs u.outputs) (fun _ hu => hu)
      (fun u b hu => hu.trans (u.takeTick_outputsChanges b)) .refl hx
  | channelFault c =>
    simp only [exec, execChannelFault] at hx
    split at hx <;> cases hx
    · exact .single (State.changeChannel_outputsChange _ c .fault)
    · exact .refl
  | topReport c | valueReport c =>
    simp only [exec, execTopReport, execValueReport] at hx
    split at hx <;> cases hx
    all_goals first | exact .refl | exact .single (State.changeChannel_outputsChange _ c (.report _))
  | quiescenFall =>
    simp only [exec, execQuiescenFall] at hx
    split at hx
    · cases hx; exact .refl
    · split at hx <;> cases hx
      · exact .refl
      · exact .single .quiesce
  | quiescenRise =>
    simp only [exec, execQuiescenRise] at hx
    split at hx
    · cases hx; exact .refl
    · split at hx <;> cases hx
      · exact .refl
      · exact .single .unquiesce
  | _ => rw [exec_outputs rfl hx]

theorem State.carrierPeriod_outputsChange (s : State) : OutputsChange s.outputs s.carrierPeriod.outputs := by
  unfold State.carrierPeriod
  split
  · exact .channels _ _ fun c => .kept
  · exact .channels _ _ fun c => by rw [Table.get_map]; exact .latch

theorem State.internalPeriod_outputsChanges (s : State) : OutputsChanges s.outputs s.internalPeriod.outputs := by
  unfold State.internalPeriod
  split
  · exact .refl
  · rw [State.windowPeriod_outputs, State.countDivider_outputs]
    exact .single s.carrierPeriod_outputsChange

/-! ## What a change leaves of a channel's settings and of its target -/

/-- R82, R98: what only the load and an activation set of a channel record. -/
def Channel.fixed (ch : Channel) : OutputState × Nat × Nat × Nat × Nat := (ch.outputState, ch.rest, ch.low, ch.high, ch.rate)

/-- R87: the target of a NORMAL ENABLED channel that is not quiesced; a DISABLED channel has no top value. -/
def Channel.aimed (ch : Channel) (quiesced : Bool) : Prop :=
  (ch.outputState = .disabled → ch.topValue = none)
    ∧ (ch.outputState = .enabled → ch.condition = .normal → quiesced = false → ch.target = ch.topValue.getD ch.rest)

theorem Channel.settings_eq_iff {ch : Channel} {k : ChannelProfile} :
    ch.settings k = ch ↔ ch.rest = k.rest ∧ ch.low = k.low ∧ ch.high = k.high ∧ ch.rate = k.rate := by
  cases ch
  simp [Channel.settings, eq_comm]

@[simp] theorem Channel.moveTo_fixed (ch : Channel) (v : Nat) : (ch.moveTo v).fixed = ch.fixed := by
  unfold Channel.moveTo
  repeat' split
  all_goals rfl

@[simp] theorem Channel.moveTo_topValue (ch : Channel) (v : Nat) : (ch.moveTo v).topValue = ch.topValue := by
  unfold Channel.moveTo
  repeat' split
  all_goals rfl

@[simp] theorem Channel.retarget_fixed (ch : Channel) (quiesced : Bool) : (ch.retarget quiesced).fixed = ch.fixed := by
  unfold Channel.retarget
  split <;> simp

theorem Channel.whenEnabled_of_enabled {ch : Channel} (h : ch.outputState = .enabled) (f : Channel → Channel) :
    ch.whenEnabled f = f ch := by simp [Channel.whenEnabled, h]

theorem Channel.whenEnabled_of_disabled {ch : Channel} (h : ch.outputState = .disabled) (f : Channel → Channel) :
    ch.whenEnabled f = ch := by simp [Channel.whenEnabled, h]

theorem Channel.whenEnabled_fixed {ch : Channel} {f : Channel → Channel} (h : (f ch).fixed = ch.fixed) :
    (ch.whenEnabled f).fixed = ch.fixed := by
  cases he : ch.outputState with
  | enabled => rw [Channel.whenEnabled_of_enabled he, h]
  | disabled => rw [Channel.whenEnabled_of_disabled he]

theorem ChannelChange.fixed {quiesced : Bool} {ch ch' : Channel} (hc : ChannelChange quiesced ch ch') :
    ch'.fixed = ch.fixed := by
  cases hc with
  | kept | latch => rfl
  | report r => exact Channel.whenEnabled_fixed (Channel.retarget_fixed _ _)
  | fault => exact Channel.whenEnabled_fixed (by unfold Channel.takeFault; split <;> rfl)
  | clear => exact Channel.retarget_fixed _ _
  | ramp => exact Channel.whenEnabled_fixed (by unfold Channel.rampTick; split <;> rfl)

theorem Channel.retarget_aimed (ch : Channel) (quiesced : Bool)
    (h : ch.outputState = .disabled → ch.topValue = none) : (ch.retarget quiesced).aimed quiesced := by
  have hrest := ch.retarget_rest quiesced
  have htarget : (ch.retarget quiesced).target = ch.wanted quiesced := (ch.retarget_movedTo quiesced).1
  refine ⟨fun hd => ?_, fun _ hn hq => ?_⟩
  · rw [hrest] at hd ⊢
    exact h hd
  · rw [htarget, hrest]
    rw [hrest] at hn
    simp only at hn
    simp [Channel.wanted, hq, hn]

theorem Channel.whenEnabled_aimed {ch : Channel} {quiesced quiesced' : Bool} (h : ch.aimed quiesced) {f : Channel → Channel}
    (hf : ch.outputState = .enabled → (f ch).aimed quiesced') : (ch.whenEnabled f).aimed quiesced' := by
  cases he : ch.outputState with
  | enabled => rw [Channel.whenEnabled_of_enabled he]; exact hf he
  | disabled =>
    rw [Channel.whenEnabled_of_disabled he]
    exact ⟨h.1, fun hen => absurd (he.symm.trans hen) (by decide)⟩

theorem ChannelChange.aimed {quiesced : Bool} {ch ch' : Channel} (hc : ChannelChange quiesced ch ch')
    (h : ch.aimed quiesced) : ch'.aimed quiesced := by
  cases hc with
  | kept | latch => exact h
  | report r =>
    refine Channel.whenEnabled_aimed h fun he => Channel.retarget_aimed _ _ fun hd => ?_
    exact absurd (he.symm.trans hd) (by decide)
  | fault =>
    refine Channel.whenEnabled_aimed h fun he => ?_
    unfold Channel.takeFault
    split
    · exact ⟨h.1, fun _ hn => by cases hn⟩
    · exact h
  | clear => exact Channel.retarget_aimed _ _ h.1
  | ramp => exact Channel.whenEnabled_aimed h fun _ => by unfold Channel.rampTick; split <;> exact h

theorem OutputsChange.fixed {o o' : OutputStage} (hc : OutputsChange o o') (c : Chan) :
    (o'.chans.get c).fixed = (o.chans.get c).fixed := by
  cases hc with
  | channels carrier chans hchans => exact (hchans c).fixed
  | quiesce => rw [Table.get_mapIdx]; exact Channel.whenEnabled_fixed rfl
  | unquiesce => rw [Table.get_mapIdx]; exact Channel.whenEnabled_fixed (Channel.retarget_fixed _ _)

theorem OutputsChange.aimed {o o' : OutputStage} (hc : OutputsChange o o') (h : ∀ c, (o.chans.get c).aimed o.quiesced)
    (c : Chan) : (o'.chans.get c).aimed o'.quiesced := by
  cases hc with
  | channels carrier chans hchans => exact (hchans c).aimed (h c)
  | quiesce =>
    rw [Table.get_mapIdx]
    exact Channel.whenEnabled_aimed (h c) fun _ => ⟨(h c).1, fun _ _ hq => by cases hq⟩
  | unquiesce =>
    rw [Table.get_mapIdx]
    exact Channel.whenEnabled_aimed (h c) fun _ => Channel.retarget_aimed _ _ (h c).1

theorem OutputsChanges.fixed {o o' : OutputStage} (hc : OutputsChanges o o') (c : Chan) :
    (o'.chans.get c).fixed = (o.chans.get c).fixed := by
  induction hc with
  | refl => rfl
  | tail _ hlast ih => exact (hlast.fixed c).trans ih

theorem OutputsChanges.aimed {o o' : OutputStage} (hc : OutputsChanges o o') (h : ∀ c, (o.chans.get c).aimed o.quiesced) :
    ∀ c, (o'.chans.get c).aimed o'.quiesced := by
  induction hc with
  | refl => exact h
  | tail _ hlast ih => exact hlast.aimed ih

/-! ## What a change leaves of the monitor -/

/-- R101, R111: what only the load and an activation set of the monitor's items of a channel. -/
def MonitorChannel.fixed (mc : MonitorChannel) : Bool × Nat × Nat := (mc.enable, mc.tolerance, mc.missLimit)

/-- The monitor holds the settings it held, and is STOPPED exactly if it was. -/
def Monitor.akin (m n : Monitor) : Prop :=
  (∀ c, (n.chans.get c).fixed = (m.chans.get c).fixed) ∧ (n.state = .stopped ↔ m.state = .stopped)

theorem Monitor.akin_refl (m : Monitor) : m.akin m := ⟨fun _ => rfl, Iff.rfl⟩

theorem Monitor.akin.trans {m n k : Monitor} (h : m.akin n) (h' : n.akin k) : m.akin k :=
  ⟨fun c => (h'.1 c).trans (h.1 c), h'.2.trans h.2⟩

theorem Monitor.akin_of_chans_eq {m n : Monitor} (hc : n.chans = m.chans) (hs : n.state = .stopped ↔ m.state = .stopped) :
    m.akin n := ⟨fun c => by rw [hc], hs⟩

theorem Monitor.noteOutputs_akin (m : Monitor) (before after : Table 48 Channel) : m.akin (m.noteOutputs before after) := by
  obtain ⟨-, hchans, hconverting, hother⟩ := m.noteOutputs_spec before after
  refine Monitor.akin_of_chans_eq hchans ?_
  cases hs : m.state with
  | converting cv => simp [hconverting cv hs]
  | stopped => simp [hother (by simp [hs]), hs]
  | waiting => simp [hother (by simp [hs]), hs]

theorem Monitor.disturb_akin (m : Monitor) : m.akin m.disturb := by
  refine Monitor.akin_of_chans_eq m.disturb_chans ?_
  unfold Monitor.disturb
  split <;> simp_all

theorem State.search_state_ne_stopped (s : State) : s.search.monitor.state ≠ .stopped := by
  unfold State.search
  split <;> simp

theorem State.search_akin {s : State} (h : s.monitor.state ≠ .stopped) : s.monitor.akin s.search.monitor :=
  Monitor.akin_of_chans_eq s.search_chans (iff_of_false s.search_state_ne_stopped h)

theorem State.changeChannels_akin (s : State) (f : Chan → Channel → Channel) : s.monitor.akin (s.changeChannels f).monitor :=
  s.monitor.noteOutputs_akin _ _

theorem MonitorChannel.judged_fixed (mc : MonitorChannel) (within : Bool) : (mc.judged within).fixed = mc.fixed := by
  unfold MonitorChannel.judged
  repeat' split
  all_goals rfl

theorem State.evaluate_akin (s : State) (cv : Conversion) (input : Int) : s.monitor.akin (s.evaluate cv input).monitor := by
  unfold State.evaluate
  dsimp only
  split
  · exact s.monitor.akin_refl
  · refine ⟨fun c => ?_, Iff.rfl⟩
    by_cases hc : c = cv.chan
    · subst hc; simpa using MonitorChannel.judged_fixed _ _
    · simp [Table.get_set_ne _ _ hc]

theorem Monitor.clearMisses_akin (m : Monitor) (c : Chan) : m.akin (m.clearMisses c) := by
  refine ⟨fun d => ?_, Iff.rfl⟩
  by_cases hd : d = c
  · subst hd; simp [Monitor.clearMisses, MonitorChannel.fixed]
  · simp [Monitor.clearMisses, Table.get_modify_ne _ _ hd]

theorem State.takeTick_akin (s : State) (b : TickTaker) : s.monitor.akin (s.takeTick b).monitor := by
  refine State.takeTick_keeps (P := fun u => s.monitor.akin u.monitor) (fun _ _ hu => hu) (fun u hu => hu.trans ?_)
    s.monitor.akin_refl
  cases b with
  | outputStage => exact u.changeChannels_akin _
  | readbackMonitor =>
    simp only [State.blockTick, State.searchIfWaiting]
    split
    next hs => exact State.search_akin (by simp [hs])
    all_goals exact u.monitor.akin_refl
  | claimTable | sessionTable | supervisor =>
    exact Monitor.akin_of_chans_eq (by simp [State.blockTick]) (by simp [State.blockTick])

theorem State.clearFault_akin (s : State) (c : Chan) : s.monitor.akin (s.clearFault c).monitor := by
  rw [State.clearFault, State.notices_monitor, State.takeFaultNotice_monitor]
  exact (s.monitor.clearMisses_akin c).trans (State.changeChannels_akin { s with monitor := s.monitor.clearMisses c } _)

theorem exec_akin {i : Instr} {s t : State} (hreset : ∀ reached flaws, i ≠ .deviceReset reached flaws)
    (hload : i ≠ .startUpLoadCompletion) (hcommit : ∀ flaws order, i ≠ .commitCompletion flaws order)
    (hx : exec i s = .next t) : s.monitor.akin t.monitor := by
  cases i with
  | deviceReset reached flaws => exact absurd rfl (hreset reached flaws)
  | startUpLoadCompletion => exact absurd rfl hload
  | commitCompletion flaws order => exact absurd rfl (hcommit flaws order)
  | clearFault p =>
    obtain rfl := Host.Outcome.next.inj hx
    refine State.serve_keeps (P := fun u => s.monitor.akin u.monitor) (fun _ _ hu => hu) (fun _ _ _ hu => hu)
      s.monitor.akin_refl p _ _ _ fun u who c hu => hu.trans ?_
    unfold ownClearFault
    repeat' split
    · exact u.monitor.akin_refl
    · exact u.monitor.akin_refl
    · exact u.clearFault_akin c
  | tick takers =>
    exact execTick_keeps (P := fun u => s.monitor.akin u.monitor) (fun _ hu => hu)
      (fun u b hu => hu.trans (u.takeTick_akin b)) s.monitor.akin_refl hx
  | conversionCompletion input =>
    simp only [exec, execConversionCompletion] at hx
    split at hx <;> cases hx
    next cv hcv =>
      have hakin := s.evaluate_akin cv input
      exact hakin.trans (State.search_akin fun hs => absurd (hakin.2.mp hs) (by simp [hcv]))
    all_goals exact s.monitor.akin_refl
  | channelFault c =>
    simp only [exec, execChannelFault] at hx
    split at hx <;> cases hx
    · exact State.changeChannels_akin _ _
    · exact s.monitor.akin_refl
  | topReport c | valueReport c =>
    simp only [exec, execTopReport, execValueReport] at hx
    split at hx <;> cases hx
    all_goals first | exact s.monitor.akin_refl | exact State.changeChannels_akin _ _
  | quiescenFall =>
    simp only [exec, execQuiescenFall] at hx
    split at hx
    · cases hx; exact s.monitor.akin_refl
    · split at hx <;> cases hx
      · exact s.monitor.akin_refl
      · exact (State.changeChannels_akin _ _).trans (Monitor.disturb_akin _)
  | quiescenRise =>
    simp only [exec, execQuiescenRise] at hx
    split at hx
    · cases hx; exact s.monitor.akin_refl
    · split at hx <;> cases hx
      · exact s.monitor.akin_refl
      · exact State.changeChannels_akin _ _
  | _ => rw [exec_monitor rfl hx]; exact s.monitor.akin_refl

/-! ## What a change leaves of the supervisor's settings and of the active profile -/

theorem Supervisor.settings_eq_iff {u : Supervisor} {prof : Profile} :
    u.settings prof = u ↔ u.prescaler = prof.prescaler ∧ u.holdoverDivider = prof.holdoverDivider
      ∧ u.holdoverPeriod = prof.holdoverPeriod := by
  cases u
  simp [Supervisor.settings, eq_comm]

theorem Supervisor.lapseIfOut_settings (u : Supervisor) (prof : Profile) (h : u.settings prof = u) :
    u.lapseIfOut.settings prof = u.lapseIfOut := by
  unfold Supervisor.lapseIfOut
  rw [Supervisor.settings_eq_iff] at h ⊢
  split <;> exact h

theorem SupervisorChange.settings {u v : Supervisor} (hc : SupervisorChange u v) {prof : Profile}
    (h : u.settings prof = u) : v.settings prof = v := by
  rw [Supervisor.settings_eq_iff] at h
  cases hc with
  | edge | restart | period | resume => exact Supervisor.settings_eq_iff.mpr h
  | divide source => unfold Supervisor.divided; split <;> exact Supervisor.settings_eq_iff.mpr h
  | window =>
    unfold Supervisor.afterWindow
    repeat' split
    all_goals exact Supervisor.settings_eq_iff.mpr h
  | countDown => exact Supervisor.lapseIfOut_settings _ prof (Supervisor.settings_eq_iff.mpr h)
  | lapse => exact Supervisor.lapseIfOut_settings _ prof (Supervisor.settings_eq_iff.mpr h)

theorem SupervisorChanges.settings {u v : Supervisor} (hc : SupervisorChanges u v) {prof : Profile}
    (h : u.settings prof = u) : v.settings prof = v := by
  induction hc with
  | refl => exact h
  | tail _ hlast ih => exact hlast.settings ih

theorem State.lapseSessions_active (s : State) :
    s.lapseSessions.store.active = s.store.active ∧ s.lapseSessions.store.commit = s.store.commit := by
  have hslot : ∀ (u : State) (slot : Slot),
      (u.lapseSlot slot).store.active = u.store.active ∧ (u.lapseSlot slot).store.commit = u.store.commit := by
    intro u slot
    unfold State.lapseSlot
    split
    · split
      · simp only [State.endSession]; split <;> exact ⟨rfl, rfl⟩
      · exact ⟨rfl, rfl⟩
    · exact ⟨rfl, rfl⟩
  unfold State.lapseSessions
  generalize List.finRange 8 = slots
  induction slots generalizing s with
  | nil => exact ⟨rfl, rfl⟩
  | cons slot slots ih => exact ⟨(ih _).1.trans (hslot s slot).1, (ih _).2.trans (hslot s slot).2⟩

theorem State.takeTick_active (s : State) (b : TickTaker) :
    (s.takeTick b).store.active = s.store.active ∧ (s.takeTick b).store.commit = s.store.commit := by
  by_cases hb : b = .sessionTable
  · subst hb
    refine State.takeTick_keeps (P := fun u => u.store.active = s.store.active ∧ u.store.commit = s.store.commit)
      (fun _ _ hu => hu) (fun u hu => ?_) ⟨rfl, rfl⟩
    obtain ⟨hactive, hcommit⟩ := u.decrementKeepalives.lapseSessions_active
    rw [State.blockTick, hactive, hcommit]
    exact hu
  · rw [s.takeTick_store hb]; exact ⟨rfl, rfl⟩

/-- Only device reset, the end of the load and an activation change the active profile. -/
theorem exec_active {i : Instr} {s t : State} (hreset : ∀ reached flaws, i ≠ .deviceReset reached flaws)
    (hload : i ≠ .startUpLoadCompletion) (hcommit : ∀ flaws order, i ≠ .commitCompletion flaws order)
    (hx : exec i s = .next t) : t.store.active = s.store.active := by
  cases i with
  | deviceReset reached flaws => exact absurd rfl (hreset reached flaws)
  | startUpLoadCompletion => exact absurd rfl hload
  | commitCompletion flaws order => exact absurd rfl (hcommit flaws order)
  | resetEnd => simp only [exec, execResetEnd] at hx; split at hx <;> cases hx <;> rfl
  | closeSession p =>
    refine served_eq (fun u => u.store.active) (fun _ _ => rfl) (fun _ _ _ => rfl) (fun u who q => ?_) hx
    simp only [ownClose, State.endSession]
    split <;> rfl
  | profileStage p =>
    refine served_eq (fun u => u.store.active) (fun _ _ => rfl) (fun _ _ _ => rfl) (fun u who q => ?_) hx
    unfold ownProfileStage
    repeat' split
    all_goals rfl
  | profileCommit p =>
    refine served_eq (fun u => u.store.active) (fun _ _ => rfl) (fun _ _ _ => rfl) (fun u who q => ?_) hx
    unfold ownProfileCommit
    repeat' split
    all_goals rfl
  | profileDiscard p =>
    refine served_eq (fun u => u.store.active) (fun _ _ => rfl) (fun _ _ _ => rfl) (fun u who q => ?_) hx
    unfold ownProfileDiscard
    split <;> rfl
  | tick takers =>
    exact execTick_keeps (P := fun u => u.store.active = s.store.active) (fun _ hu => hu)
      (fun u b hu => (u.takeTick_active b).1.trans hu) rfl hx
  | sessionLapse =>
    obtain rfl := Host.Outcome.next.inj hx
    exact (State.lapseSessions_active _).1.trans (s.takeTick_active .sessionTable).1
  | _ => rw [exec_store rfl hx]

/-! ## No request before the load has ended -/

theorem PortsInv.requestAt_eq_none {s : State} (h : PortsInv s) (hload : s.store.loadInProgress = true) (p : PortId) :
    s.requestAt p = none := by
  obtain ⟨hcombined, -, -, -, hstate⟩ := (portsInv_iff.mp h).1 p
  have hflight : (s.ports.get p).inFlight = none := ((Port.combined_starting (hstate.mpr hload)).mp hcombined).1
  simp [State.requestAt, hflight]

/-- While the load is in progress a request changes nothing: there is none. -/
theorem PortsInv.serve_eq {α : Type} {s : State} (h : PortsInv s) (hload : s.store.loadInProgress = true) (p : PortId)
    (code : RequestCode) (decode : List Byte → Except Result α) (maintenanceOnly : Bool)
    (owner : State → Requester → α → State × Reply) : s.serve p code decode maintenanceOnly owner = s :=
  State.serve_none (by simp [State.requestOf, h.requestAt_eq_none hload p])

theorem exec_commit_none {i : Instr} {s t : State} (h : PortsInv s) (hload : s.store.loadInProgress = true)
    (hnone : s.store.commit = none) (hx : exec i s = .next t) : t.store.commit = none := by
  cases i with
  | deviceReset reached flaws => cases hx; rfl
  | startUpLoadCompletion =>
    simp only [exec, execStartUpLoadCompletion] at hx
    split at hx <;> cases hx
    · rw [State.completeLoad_store]; exact hnone
    · exact hnone
  | resetEnd => simp only [exec, execResetEnd] at hx; split at hx <;> cases hx <;> exact hnone
  | closeSession p | profileStage p | profileCommit p | profileDiscard p =>
    obtain rfl := Host.Outcome.next.inj hx
    rw [h.serve_eq hload]
    exact hnone
  | commitCompletion flaws order =>
    simp only [exec, execCommitCompletion, hnone] at hx
    cases hx
    exact hnone
  | tick takers =>
    exact execTick_keeps (P := fun u => u.store.commit = none) (fun _ hu => hu)
      (fun u b hu => (u.takeTick_active b).2.trans hu) hnone hx
  | sessionLapse =>
    obtain rfl := Host.Outcome.next.inj hx
    exact (State.lapseSessions_active _).2.trans ((s.takeTick_active .sessionTable).2.trans hnone)
  | _ => rw [exec_store rfl hx]; exact hnone

/-! ## The settings of the active profile -/

/-- R82, R98, R101, R111, R120: the settings of `prof` at the output stage, the monitor and the supervisor. -/
def State.holdsSettings (s : State) (prof : Profile) : Prop :=
  (∀ c, (s.outputs.chans.get c).settings (prof.chans.get c) = s.outputs.chans.get c)
    ∧ (∀ c, (s.monitor.chans.get c).fixed
        = ((prof.chans.get c).enable == 1, (prof.chans.get c).tolerance, (prof.chans.get c).missLimit))
    ∧ s.supervisor.settings prof = s.supervisor

theorem settingsDelivered_iff {s : State} : settingsDelivered s ↔ s.holdsSettings s.store.active := by
  have hmonitor : ∀ (mc : MonitorChannel) (enable : Bool) (tolerance missLimit : Nat),
      ({ missCount := mc.missCount, enable := enable, tolerance := tolerance, missLimit := missLimit : MonitorChannel } = mc
        ↔ mc.fixed = (enable, tolerance, missLimit)) := by
    intro mc enable tolerance missLimit
    cases mc
    simp [MonitorChannel.fixed, eq_comm]
  simp only [settingsDelivered, State.holdsSettings, hmonitor]

/-- Through a change of no setting, each block holds the settings it held. -/
theorem State.holdsSettings.of_kept {s t : State} {prof : Profile} (h : s.holdsSettings prof)
    (houtputs : ∀ c, (t.outputs.chans.get c).fixed = (s.outputs.chans.get c).fixed) (hmonitor : s.monitor.akin t.monitor)
    (hsupervisor : SupervisorChanges s.supervisor t.supervisor) : t.holdsSettings prof := by
  obtain ⟨ho, hm, hu⟩ := h
  refine ⟨fun c => ?_, fun c => (hmonitor.1 c).trans (hm c), hsupervisor.settings hu⟩
  have hc := ho c
  have hsame := houtputs c
  simp only [Channel.fixed, Prod.mk.injEq] at hsame
  obtain ⟨-, hrest, hlow, hhigh, hrate⟩ := hsame
  rw [Channel.settings_eq_iff] at hc ⊢
  rw [hrest, hlow, hhigh, hrate]
  exact hc

theorem Channel.stepToRest_settings (ch : Channel) (k : ChannelProfile) :
    (ch.settings k).stepToRest.settings k = (ch.settings k).stepToRest := rfl

theorem Channel.activate_settings (ch : Channel) (k : ChannelProfile) (quiesced : Bool) :
    (ch.activate k quiesced).settings k = ch.activate k quiesced := by
  unfold Channel.activate
  split
  · rfl
  · rw [Channel.settings_eq_iff]
    have hfixed := Channel.moveTo_fixed (ch.settings k) (ch.topValue.getD k.rest)
    simp only [Channel.fixed, Prod.mk.injEq] at hfixed
    exact hfixed.2

theorem Channel.activate_outputState (ch : Channel) (k : ChannelProfile) (quiesced : Bool) :
    (ch.activate k quiesced).outputState = ch.outputState := by
  unfold Channel.activate
  split
  · rfl
  · exact Channel.moveTo_outputState _ _

theorem State.deliver_outputs (s : State) (prof : Profile) (order : ActivationOrder) :
    (s.deliver prof order).outputs = { s.outputs with
      chans := s.outputs.chans.mapIdx fun c =>
        Channel.whenEnabled (Channel.activate · (prof.chans.get c) s.outputs.quiesced) } := by
  cases order <;> simp [State.deliver, State.activateSupervisor, State.activateOutputs, State.changeChannels]

theorem State.deliver_monitor_ne_stopped (s : State) (prof : Profile) (order : ActivationOrder) :
    (s.deliver prof order).monitor.state ≠ .stopped := by
  cases order with
  | outputFirst =>
    simp only [State.deliver, State.activateSupervisor, State.activateMonitor]
    exact State.search_state_ne_stopped _
  | monitorFirst =>
    simp only [State.deliver, State.activateSupervisor, State.activateOutputs]
    rw [ne_eq, (State.changeChannels_akin _ _).2]
    exact State.search_state_ne_stopped _

theorem monitorSettings_fixed (prof : Profile) (c : Chan) : ((monitorSettings prof).get c).fixed
    = ((prof.chans.get c).enable == 1, (prof.chans.get c).tolerance, (prof.chans.get c).missLimit) := by
  simp [monitorSettings, MonitorChannel.fixed]

/-- An activation delivers its profile where every channel is ENABLED. -/
theorem State.deliver_holdsSettings {s : State} (henabled : ∀ c, (s.outputs.chans.get c).outputState = .enabled)
    (prof : Profile) (order : ActivationOrder) : (s.deliver prof order).holdsSettings prof := by
  refine ⟨fun c => ?_, fun c => ?_, ?_⟩
  · rw [State.deliver_outputs, Table.get_mapIdx, Channel.whenEnabled_of_enabled (henabled c)]
    exact Channel.activate_settings _ _ _
  · rw [State.deliver_monitorChans, monitorSettings_fixed]
  · rw [State.deliver_supervisor, Supervisor.settings_eq_iff]
    exact ⟨rfl, rfl, rfl⟩

theorem State.completeLoad_outputs (s : State) (choice : LoadChoice) :
    (s.completeLoad choice).outputs = { s.outputs with
      quiesced := s.quiescenLow
      chans := s.outputs.chans.mapIdx fun c ch => ch.enabledAt (choice.profile.chans.get c) } := by
  simp [State.completeLoad, State.enableOutputs]

theorem State.completeLoad_monitor_ne_stopped (s : State) (choice : LoadChoice) :
    (s.completeLoad choice).monitor.state ≠ .stopped := by
  simp only [State.completeLoad, State.startPorts_monitor, State.startSupervisor_monitor, State.startMonitor]
  exact State.search_state_ne_stopped _

theorem Supervisor.started_settings (u : Supervisor) (prof : Profile) :
    (u.started prof).settings prof = u.started prof := by
  rw [Supervisor.settings_eq_iff]
  unfold Supervisor.started
  split <;> exact ⟨rfl, rfl, rfl⟩

theorem State.completeLoad_holdsSettings (s : State) (choice : LoadChoice) :
    (s.completeLoad choice).holdsSettings choice.profile := by
  refine ⟨fun c => ?_, fun c => ?_, ?_⟩
  · rw [State.completeLoad_outputs, Table.get_mapIdx, Channel.settings_eq_iff]
    exact ⟨rfl, rfl, rfl, rfl⟩
  · rw [State.completeLoad_monitorChans, monitorSettings_fixed]
  · rw [State.completeLoad_supervisor, Supervisor.started_settings]

theorem deviceReset_holdsSettings : State.reset.holdsSettings defaultProfile := by
  refine ⟨fun c => ?_, fun c => ?_, rfl⟩ <;>
    simp [State.reset, State.atReset, resetOutputs, resetMonitor, defaultProfile, Channel.settings, resetChannel,
      defaultChannelProfile, MonitorChannel.fixed]

/-! ## The rule over the whole machine -/

theorem deliveredInv_iff {s : State} :
    DeliveredInv s ↔ PortsInv s ∧ s.holdsSettings s.store.active
      ∧ (∀ c, (s.outputs.chans.get c).outputState = .disabled ↔ s.store.loadInProgress = true)
      ∧ (s.monitor.state = .stopped ↔ s.store.loadInProgress = true)
      ∧ (s.store.loadInProgress = true → s.store.commit = none) := by
  rw [DeliveredInv, settingsDelivered_iff]

theorem DeliveredInv.enabled {s : State} (h : DeliveredInv s) (hl : s.store.loadInProgress = false) (c : Chan) :
    (s.outputs.chans.get c).outputState = .enabled := by
  have hd := h.2.2.1 c
  cases he : (s.outputs.chans.get c).outputState with
  | enabled => rfl
  | disabled => rw [hl] at hd; exact absurd (hd.mp he) (by decide)

/-- Through a change of no setting that leaves the load as it is, the rule holds on. -/
theorem DeliveredInv.of_kept {s t : State} (h : DeliveredInv s) (hports : PortsInv t)
    (hload : t.store.loadInProgress = s.store.loadInProgress) (hactive : t.store.active = s.store.active)
    (hcommit : s.store.loadInProgress = true → t.store.commit = none) (houtputs : OutputsChanges s.outputs t.outputs)
    (hmonitor : s.monitor.akin t.monitor) (hsupervisor : SupervisorChanges s.supervisor t.supervisor) :
    DeliveredInv t := by
  obtain ⟨-, hsettings, hdisabled, hstopped, -⟩ := deliveredInv_iff.mp h
  refine deliveredInv_iff.mpr ⟨hports, ?_, fun c => ?_, ?_, hload ▸ hcommit⟩
  · rw [hactive]; exact hsettings.of_kept houtputs.fixed hmonitor hsupervisor
  · have hsame := houtputs.fixed c
    simp only [Channel.fixed, Prod.mk.injEq] at hsame
    rw [hsame.1, hload]
    exact hdisabled c
  · rw [hmonitor.2, hload]; exact hstopped

theorem DeliveredInv.loaded_of_commit {s : State} (h : DeliveredInv s) {cm : Commit} (hcm : s.store.commit = some cm) :
    s.store.loadInProgress = false := by
  cases hl : s.store.loadInProgress with
  | false => rfl
  | true => rw [h.2.2.2.2 hl] at hcm; cases hcm

/-- R144: every block takes the settings of a profile that is activated once the load has ended. -/
theorem DeliveredInv.deliver {s : State} (h : DeliveredInv s) {store : ProfileStore} {prof : Profile}
    {order : ActivationOrder} (hports : PortsInv (({ s with store := store }.deliver prof order).deviceNotice .profile))
    (hended : s.store.loadInProgress = false) (hload : store.loadInProgress = false) (hactive : store.active = prof) :
    DeliveredInv (({ s with store := store }.deliver prof order).deviceNotice .profile) := by
  have hstore : ({ s with store := store }.deliver prof order).store = store := State.deliver_store _ _ _
  refine deliveredInv_iff.mpr ⟨hports, ?_, fun c => ?_, ?_, fun hl => ?_⟩
  · rw [State.deviceNotice_store, hstore, hactive]
    exact State.deliver_holdsSettings (s := { s with store := store }) (h.enabled hended) prof order
  · rw [State.deviceNotice_store, hstore, State.deviceNotice_outputs, State.deliver_outputs, Table.get_mapIdx,
      Channel.whenEnabled_of_enabled (h.enabled hended c), Channel.activate_outputState]
    exact iff_of_false (by simp [h.enabled hended c]) (by simp [hload])
  · rw [State.deviceNotice_store, hstore]
    exact iff_of_false (State.deliver_monitor_ne_stopped _ _ _) (by simp [hload])
  · rw [State.deviceNotice_store, hstore, hload] at hl
    cases hl

theorem exec_deliveredInv {i : Instr} {s t : State} (h : DeliveredInv s) (hx : exec i s = .next t) : DeliveredInv t := by
  have hports : PortsInv t := exec_portsInv h.1 hx
  cases i with
  | deviceReset reached flaws =>
    cases hx
    refine deliveredInv_iff.mpr ⟨hports, deviceReset_holdsSettings, fun c => ?_, ?_, fun _ => rfl⟩ <;>
      simp [State.atReset, resetOutputs, resetChannel, resetStore, resetMonitor]
  | startUpLoadCompletion =>
    simp only [exec, execStartUpLoadCompletion] at hx
    split at hx <;> cases hx
    next choice hchoice =>
      refine deliveredInv_iff.mpr ⟨hports, ?_, fun c => ?_, ?_, ?_⟩ <;> rw [State.completeLoad_store]
      · exact s.completeLoad_holdsSettings choice
      · rw [State.completeLoad_outputs, Table.get_mapIdx]
        exact iff_of_false (by simp [Channel.enabledAt]) (by simp [ProfileStore.loaded])
      · exact iff_of_false (s.completeLoad_monitor_ne_stopped choice) (by simp [ProfileStore.loaded])
      · exact fun hl => by cases hl
    next => exact h
  | commitCompletion flaws order =>
    have hload := exec_loadInProgress (by simp) (by simp) hx
    simp only [exec, execCommitCompletion] at hx
    split at hx <;> cases hx
    next cm hcm =>
      have hended : s.store.loadInProgress = false := h.loaded_of_commit hcm
      unfold State.completeCommit at hports hload ⊢
      split at hload
      next hv => rw [if_pos hv] at hports ⊢; exact h.deliver hports hended (by simpa [hended] using hload) rfl
      next hv =>
        rw [if_neg hv] at hports ⊢
        exact h.of_kept hports hload (by cases cm.target <;> rfl) (fun _ => rfl) .refl s.monitor.akin_refl .refl
    next => exact h
  | _ =>
    exact h.of_kept hports (exec_loadInProgress (by simp) (by simp) hx) (exec_active (by simp) (by simp) (by simp) hx)
      (fun hl => exec_commit_none h.1 hl (h.2.2.2.2 hl) hx) (exec_outputsChanges (by simp) (by simp) (by simp) hx)
      (exec_akin (by simp) (by simp) (by simp) hx) (exec_supervisorChanges (by simp) (by simp) (by simp) hx)

/-! ## The targets -/

theorem Channel.activate_aimed {ch : Channel} (he : ch.outputState = .enabled) (k : ChannelProfile) (quiesced : Bool) :
    (ch.activate k quiesced).aimed quiesced := by
  refine ⟨fun hd => ?_, fun _ hn hq => ?_⟩
  · rw [ch.activate_outputState, he] at hd
    cases hd
  · unfold Channel.activate at hn ⊢
    split at hn
    next hheld => rcases hheld with hheld | hheld
                  · rw [hq] at hheld; cases hheld
                  · exact absurd (hheld.symm.trans hn) (by decide)
    next hfree =>
      have hrest : ((ch.settings k).moveTo (ch.topValue.getD k.rest)).rest = k.rest :=
        (congrArg (fun x => x.2.1) (Channel.moveTo_fixed _ _) : _)
      rw [if_neg hfree, Channel.moveTo_target, Channel.moveTo_topValue, hrest]
      rfl

/-- R87, at every channel. -/
def State.aimed (s : State) : Prop := ∀ c, (s.outputs.chans.get c).aimed s.outputs.quiesced

theorem targetsInv_iff {s : State} : TargetsInv s ↔ DeliveredInv s ∧ s.aimed := by
  simp only [TargetsInv, State.aimed, Channel.aimed, forall_and]

theorem exec_aimed {i : Instr} {s t : State} (hd : DeliveredInv s) (h : s.aimed) (hx : exec i s = .next t) : t.aimed := by
  cases i with
  | deviceReset reached flaws =>
    cases hx
    exact fun c => ⟨fun _ => by simp [State.atReset, resetOutputs, resetChannel],
      fun he => by simp [State.atReset, resetOutputs, resetChannel] at he⟩
  | startUpLoadCompletion =>
    simp only [exec, execStartUpLoadCompletion] at hx
    split at hx <;> cases hx
    next choice hchoice =>
      intro c
      have hdisabled := (hd.2.2.1 c).mpr (hd.1.2.2.1 (by simp [hchoice]))
      have htop := (h c).1 hdisabled
      rw [State.completeLoad_outputs, Table.get_mapIdx]
      exact ⟨fun hdis => by simp [Channel.enabledAt] at hdis, fun _ _ _ => by
        simp [Channel.enabledAt, Channel.stepToRest, Channel.settings, htop]⟩
    next => exact h
  | commitCompletion flaws order =>
    simp only [exec, execCommitCompletion] at hx
    split at hx <;> cases hx
    next cm hcm =>
      unfold State.completeCommit
      split
      · intro c
        have he := hd.enabled (hd.loaded_of_commit hcm) c
        rw [State.deviceNotice_outputs, State.deliver_outputs, Table.get_mapIdx, Channel.whenEnabled_of_enabled he]
        exact Channel.activate_aimed he _ _
      · exact h
    next => exact h
  | _ => exact (exec_outputsChanges (by simp) (by simp) (by simp) hx).aimed h

/-- Settles O60: only the load, an activation and device reset set a setting, each at every block; and every change of a
channel that is not held at rest recomputes its target. -/
theorem settingsFollowActiveProfile : Obligations.SettingsFollowActiveProfile := by
  unfold Obligations.SettingsFollowActiveProfile
  have hperiod : ∀ s : State, DeliveredInv s → DeliveredInv s.internalPeriod := by
    intro s h
    refine h.of_kept ?_ (by simp) (by simp) (fun hl => by simpa using h.2.2.2.2 hl) s.internalPeriod_outputsChanges
      (by rw [s.internalPeriod_monitor]; exact s.monitor.akin_refl) s.internalPeriod_supervisorChanges
    exact h.1.of_ports_eq (by simp) (by simp) (loadInv_of_loadStatus_eq h.1.2.2 s.internalPeriod_loadStatus)
  refine ⟨fun s t => step_keeps (P := DeliveredInv) (fun _ _ h => h) (fun i s t h hx => exec_deliveredInv h hx) hperiod,
    fun s t => ?_⟩
  refine step_keeps (P := TargetsInv) (fun _ _ h => h) (fun i s t h hx => ?_) fun s h => ?_
  · obtain ⟨hd, ha⟩ := targetsInv_iff.mp h
    exact targetsInv_iff.mpr ⟨exec_deliveredInv hd hx, exec_aimed hd ha hx⟩
  · obtain ⟨hd, ha⟩ := targetsInv_iff.mp h
    exact targetsInv_iff.mpr ⟨hperiod s hd, s.internalPeriod_outputsChanges.aimed ha⟩

end Sys2Proof.Machine
end

section
/-! PROOFS. Sessions, owners and attention lists (R1, R4, R24, R48, R51, R53, R54, R65): what each operation on the three
tables leaves of their rules. -/

-- The whole text compiles close to the check's memory limit, so this part starts no threads of its own.
set_option Elab.async false

namespace Sys2Proof.Machine

/-! ## The owner and the handle of a record -/

/-- The owner of record `i`, if it is LIVE or RETIRED. -/
def ClaimTable.ownerOf (t : ClaimTable) (i : RecIdx) : Option SessionId := (t.body? i).map ClaimBody.owner

theorem ClaimTable.ownerOf_of_body? {t : ClaimTable} {i : RecIdx} {b : ClaimBody} (h : t.body? i = some b) :
    t.ownerOf i = some b.owner := by simp [ClaimTable.ownerOf, h]

theorem ClaimTable.ownerSlot_eq (t : ClaimTable) (i : RecIdx) : t.ownerSlot i = (t.ownerOf i).map SessionId.slot := by
  cases hb : t.body? i <;> simp [ClaimTable.ownerSlot, ClaimTable.ownerOf, hb]

theorem ClaimTable.ownedBy_iff {t : ClaimTable} {id : SessionId} {i : RecIdx} :
    t.ownedBy id i = true ↔ t.ownerOf i = some id := by
  cases hb : t.body? i <;> simp [ClaimTable.ownedBy, ClaimTable.ownerOf, hb]

theorem ClaimTable.mem_owned {t : ClaimTable} {id : SessionId} {i : RecIdx} :
    i ∈ t.owned id ↔ t.ownerOf i = some id := by
  simp [ClaimTable.owned, ClaimTable.ownedBy_iff]

theorem ClaimTable.owned_nodup (t : ClaimTable) (id : SessionId) : (t.owned id).Nodup :=
  (List.nodup_finRange 64).filter _

theorem ClaimTable.ownedCount_le {t u : ClaimTable} {id : SessionId}
    (h : ∀ i, u.ownerOf i = some id → t.ownerOf i = some id) : u.ownedCount id ≤ t.ownedCount id :=
  ((u.owned_nodup id).subperm fun i hi => ClaimTable.mem_owned.mpr (h i (ClaimTable.mem_owned.mp hi))).length_le

theorem ClaimTable.ownedCount_le_succ {t u : ClaimTable} {id : SessionId} {i : RecIdx}
    (h : ∀ j, j ≠ i → u.ownerOf j = some id → t.ownerOf j = some id) : u.ownedCount id ≤ t.ownedCount id + 1 := by
  refine ((u.owned_nodup id).subperm (l₂ := i :: t.owned id) fun j hj => ?_).length_le
  by_cases hji : j = i
  · simp [hji]
  · exact List.mem_cons_of_mem _ (ClaimTable.mem_owned.mpr (h j hji (ClaimTable.mem_owned.mp hj)))

theorem ClaimTable.ownerOf_congr {t u : ClaimTable} {i : RecIdx} (h : u.recs.get i = t.recs.get i) :
    u.ownerOf i = t.ownerOf i := by rw [ClaimTable.ownerOf, ClaimTable.body?_congr h]; rfl

theorem ClaimTable.setState_ownerOf (t : ClaimTable) (i j : RecIdx) (st : ClaimState) :
    (t.setState i st).ownerOf j = if j = i then st.body?.map ClaimBody.owner else t.ownerOf j := by
  split
  next hj => subst hj; simp [ClaimTable.ownerOf, ClaimTable.body?, ClaimTable.setState_self]
  next hj => exact ClaimTable.ownerOf_congr (t.setState_other st hj)

theorem ClaimTable.freeAll_ownerOf (is : List RecIdx) (t : ClaimTable) (j : RecIdx) :
    (is.foldl ClaimTable.free t).ownerOf j = if j ∈ is then none else t.ownerOf j := by
  rw [ClaimTable.ownerOf, ClaimTable.body?, ClaimTable.freeAll_recs]
  split <;> rfl

theorem ClaimTable.retireAll_ownerOf (t : ClaimTable) (why : RetireReason) (is : List RecIdx) (j : RecIdx) :
    (is.foldl (ClaimTable.retire why) t).ownerOf j = t.ownerOf j := by
  rw [ClaimTable.ownerOf, ClaimTable.retireAll_body?]
  rfl

theorem ClaimTable.grant_ownerOf (t : ClaimTable) (i j : RecIdx) (b : ClaimBody) :
    (t.grant i b).ownerOf j = if j = i then some b.owner else t.ownerOf j := by
  split
  next hj => subst hj; simp [ClaimTable.ownerOf, ClaimTable.body?, ClaimTable.grant_self, ClaimState.body?]
  next hj => exact ClaimTable.ownerOf_congr (t.grant_other b hj)

theorem ClaimTable.counted_ownerOf (t : ClaimTable) (i : RecIdx) : t.counted.ownerOf i = t.ownerOf i := by
  rw [ClaimTable.ownerOf, ClaimTable.ownerOf, ClaimTable.body?, ClaimTable.body?, ClaimTable.counted_state]
  cases (t.recs.get i).state <;> rfl

theorem ClaimTable.handle_congr {t u : ClaimTable} {i : RecIdx} (h : (u.recs.get i).gen = (t.recs.get i).gen) :
    u.handle i = t.handle i := by rw [ClaimTable.handle, h]; rfl

@[simp] theorem ClaimTable.handle_index (t : ClaimTable) (i : RecIdx) : (t.handle i).index = i := rfl

@[simp] theorem ClaimTable.setState_handle (t : ClaimTable) (i j : RecIdx) (st : ClaimState) :
    (t.setState i st).handle j = t.handle j := by
  refine ClaimTable.handle_congr ?_
  rw [ClaimTable.setState_recs]
  split
  next hj => rw [hj]
  next => rfl

@[simp] theorem ClaimTable.free_handle (t : ClaimTable) (i j : RecIdx) : (t.free i).handle j = t.handle j :=
  (ClaimTable.setState_handle _ _ _ _).trans rfl

@[simp] theorem ClaimTable.freeAll_handle (is : List RecIdx) (t : ClaimTable) (j : RecIdx) :
    (is.foldl ClaimTable.free t).handle j = t.handle j := by
  induction is generalizing t with
  | nil => rfl
  | cons i is ih => exact (ih _).trans (t.free_handle i j)

@[simp] theorem ClaimTable.retire_handle (t : ClaimTable) (why : RetireReason) (i j : RecIdx) :
    (t.retire why i).handle j = t.handle j := by
  unfold ClaimTable.retire
  split
  · exact (ClaimTable.setState_handle _ _ _ _).trans rfl
  · rfl

@[simp] theorem ClaimTable.retireAll_handle (t : ClaimTable) (why : RetireReason) (is : List RecIdx) (j : RecIdx) :
    (is.foldl (ClaimTable.retire why) t).handle j = t.handle j := by
  induction is generalizing t with
  | nil => rfl
  | cons i is ih => exact (ih _).trans (t.retire_handle why i j)

@[simp] theorem ClaimTable.counted_handle (t : ClaimTable) (i : RecIdx) : t.counted.handle i = t.handle i := by
  refine ClaimTable.handle_congr ?_
  rw [ClaimTable.counted, Table.get_map, ClaimRecord.leaseTick]
  split <;> rfl

/-- R23: a record is RETIRED after some retirements if it was before, or if it was LIVE and is one of them. -/
theorem ClaimTable.retireAll_retired {t : ClaimTable} {why why' : RetireReason} {is : List RecIdx} {i : RecIdx}
    {b : ClaimBody} (h : ((is.foldl (ClaimTable.retire why) t).recs.get i).state = .retired b why') :
    (t.recs.get i).state = .retired b why' ∨ i ∈ is ∧ why' = why ∧ t.live? i = some b := by
  induction is generalizing t with
  | nil => exact .inl h
  | cons j is ih =>
    rcases ih h with hstate | ⟨hmem, hwhy, hlive⟩
    · by_cases hij : i = j
      · subst hij
        cases hl : t.live? i with
        | none => rw [ClaimTable.retire_of_not_live hl] at hstate; exact .inl hstate
        | some b' =>
          rw [ClaimTable.retire_self_state hl] at hstate
          cases hstate
          exact .inr ⟨List.mem_cons_self, rfl, rfl⟩
      · rw [t.retire_other why hij] at hstate
        exact .inl hstate
    · refine .inr ⟨List.mem_cons_of_mem _ hmem, hwhy, ?_⟩
      by_cases hij : i = j
      · subst hij; rw [t.retire_live?] at hlive; cases hlive
      · rwa [ClaimTable.live?_congr (t := t) (t.retire_other why hij)] at hlive

/-! ## One attention list -/

/-- R65, R66: at most one entry for each record and each device kind, each claim entry with some reason and naming by
its present handle a record that the session in `slot` owns. -/
def listSound (t : ClaimTable) (slot : Slot) (l : List Entry) : Prop :=
  (∀ i, (l.filter (Entry.isFor i)).length ≤ 1) ∧ (∀ k, l.count (.device k) ≤ 1)
    ∧ ∀ h rs, .claim h rs ∈ l → rs ≠ 0#8 ∧ h = t.handle h.index ∧ t.ownerSlot h.index = some slot

/-- The list holds an entry of the handle `h` that carries the reasons of `m`. -/
def carries (l : List Entry) (h : ClaimHandle) (m : ReasonSet) : Prop := ∃ rs, .claim h rs ∈ l ∧ rs &&& m = m

theorem listSound_nil (t : ClaimTable) (slot : Slot) : listSound t slot [] :=
  ⟨fun _ => Nat.zero_le _, fun _ => Nat.zero_le _, fun _ _ h => by cases h⟩

/-- Fewer entries, for records whose handle and owner stand, are still sound. -/
theorem listSound.sublist {t u : ClaimTable} {slot : Slot} {l l' : List Entry} (h : listSound t slot l) (hl : l'.Sublist l)
    (hkept : ∀ g rs, .claim g rs ∈ l' → u.handle g.index = t.handle g.index ∧ u.ownerSlot g.index = t.ownerSlot g.index) :
    listSound u slot l' := by
  refine ⟨fun i => (hl.filter _).length_le.trans (h.1 i), fun k => (hl.count_le _).trans (h.2.1 k), fun g rs hg => ?_⟩
  obtain ⟨hhandle, howner⟩ := hkept g rs hg
  rw [hhandle, howner]
  exact h.2.2 g rs (hl.subset hg)

theorem listSound.addDevice {t : ClaimTable} {slot : Slot} {l : List Entry} (h : listSound t slot l) (k : DeviceKind) :
    listSound t slot (addDevice k l) := by
  unfold Machine.addDevice
  split
  · exact h
  next hk =>
    obtain ⟨hrecords, hkinds, hclaims⟩ := h
    refine ⟨fun i => ?_, fun k' => ?_, fun g rs hg => ?_⟩
    · simpa [Entry.isFor] using hrecords i
    · rw [List.count_append]
      by_cases hkk : k' = k
      · subst hkk; simp [List.count_eq_zero_of_not_mem hk]
      · simpa [Ne.symm hkk] using hkinds k'
    · exact hclaims g rs (by simpa using hg)

theorem carries.addDevice {l : List Entry} {h : ClaimHandle} {m : ReasonSet} (hc : carries l h m) (k : DeviceKind) :
    carries (addDevice k l) h m := by
  obtain ⟨rs, hrs, hm⟩ := hc
  unfold Machine.addDevice
  split
  · exact ⟨rs, hrs, hm⟩
  · exact ⟨rs, List.mem_append_left _ hrs, hm⟩

theorem ReasonSet.or_ne_zero {x y : ReasonSet} (h : y ≠ 0#8) : x ||| y ≠ 0#8 := fun hz =>
  h (by
    have hy := ReasonSet.or_and_mask x y
    rw [hz] at hy
    simpa using hy.symm)

theorem Entry.isFor_claim {i : RecIdx} {h : ClaimHandle} {rs : ReasonSet} :
    Entry.isFor i (.claim h rs) = true ↔ h.index = i := by simp [Entry.isFor]

theorem Entry.isFor_device {i : RecIdx} {k : DeviceKind} : Entry.isFor i (.device k) = false := rfl

theorem listSound.addReasons {t : ClaimTable} {slot : Slot} {l : List Entry} {i : RecIdx} {why : ReasonSet}
    (h : listSound t slot l) (howner : t.ownerSlot i = some slot) (hwhy : why ≠ 0#8) :
    listSound t slot (addReasons (t.handle i) why l) := by
  obtain ⟨hrecords, hkinds, hclaims⟩ := h
  rcases addReasons_spec (t.handle i) why l with ⟨hnone, he⟩ | ⟨a, g, rs, b, hl, hg, -, he⟩
  · rw [he]
    refine ⟨fun j => ?_, fun k => ?_, fun g rs hmem => ?_⟩
    · rw [List.filter_append, List.length_append]
      by_cases hji : i = j
      · subst hji
        have hempty : l.filter (Entry.isFor i) = [] := List.filter_eq_nil_iff.mpr fun e hmem => by simpa using hnone e hmem
        simp [hempty, Entry.isFor]
      · simpa [Entry.isFor, hji] using hrecords j
    · simpa using hkinds k
    · rcases List.mem_append.mp hmem with hold | hnew
      · exact hclaims g rs hold
      · simp only [List.mem_singleton, Entry.claim.injEq] at hnew
        obtain ⟨rfl, rfl⟩ := hnew
        exact ⟨hwhy, rfl, howner⟩
  · subst hl
    rw [he]
    refine ⟨fun j => ?_, fun k => ?_, fun g' rs' hmem => ?_⟩
    · cases hj : (g.index == j) <;> simpa [List.filter_append, List.filter_cons, Entry.isFor, hj] using hrecords j
    · simpa [List.count_append, List.count_cons] using hkinds k
    · rcases List.mem_append.mp hmem with hold | hold
      · exact hclaims g' rs' (List.mem_append_left _ hold)
      · rcases List.mem_cons.mp hold with hnew | hold
        · cases hnew
          have hbefore := hclaims g rs (List.mem_append_right _ List.mem_cons_self)
          exact ⟨ReasonSet.or_ne_zero hwhy, hbefore.2⟩
        · exact hclaims g' rs' (List.mem_append_right _ (List.mem_cons_of_mem _ hold))

theorem carries.addReasons {l : List Entry} {h : ClaimHandle} {m : ReasonSet} (hc : carries l h m) (g : ClaimHandle)
    (why : ReasonSet) : carries (addReasons g why l) h m := by
  obtain ⟨rs, hrs, hm⟩ := hc
  rcases addReasons_spec g why l with ⟨-, he⟩ | ⟨a, g', rs', b, hl, -, -, he⟩
  · rw [he]; exact ⟨rs, List.mem_append_left _ hrs, hm⟩
  · subst hl
    rw [he]
    rcases List.mem_append.mp hrs with hold | hold
    · exact ⟨rs, List.mem_append_left _ hold, hm⟩
    · rcases List.mem_cons.mp hold with hthis | hold
      · cases hthis
        exact ⟨rs ||| why, List.mem_append_right _ List.mem_cons_self, ReasonSet.and_mask_or hm⟩
      · exact ⟨rs, List.mem_append_right _ (List.mem_cons_of_mem _ hold), hm⟩

/-- R67: after a notice the record's entry carries its reason. -/
theorem listSound.carries_addReasons {t : ClaimTable} {slot : Slot} {l : List Entry} (h : listSound t slot l) (i : RecIdx)
    (why : ReasonSet) : carries (Machine.addReasons (t.handle i) why l) (t.handle i) why := by
  rcases addReasons_spec (t.handle i) why l with ⟨-, he⟩ | ⟨a, g, rs, b, hl, hg, -, he⟩
  · rw [he]
    exact ⟨why, by simp, by simp⟩
  · subst hl
    have hpresent := (h.2.2 g rs (List.mem_append_right _ List.mem_cons_self)).2.1
    have hsame : g = t.handle i := hpresent.trans (congrArg t.handle hg)
    rw [he, hsame]
    exact ⟨rs ||| why, by simp, ReasonSet.or_and_mask rs why⟩

/-! ## The attention lists over the claim table -/

/-- R24, R65, R66: every list is sound, and every RETIRED record has an entry with its reason in its owner's list. -/
def listsSound (t : ClaimTable) (a : Attention) : Prop :=
  (∀ slot, listSound t slot (a.get slot))
    ∧ ∀ i b why, (t.recs.get i).state = .retired b why → carries (a.get b.owner.slot) (t.handle i) why.reason.mask

theorem Reason.mask_ne_zero (why : Reason) : why.mask ≠ 0#8 := by cases why <;> decide

theorem listsSound.notice {t : ClaimTable} {a : Attention} (h : listsSound t a) (why : Reason) (i : RecIdx) :
    listsSound t (Attention.notice t why a i) := by
  obtain ⟨hlists, hretired⟩ := h
  refine ⟨fun slot => ?_, fun j b why' hj => ?_⟩
  · rw [Attention.notice_get]
    split
    next howner => exact (hlists slot).addReasons howner why.mask_ne_zero
    next => exact hlists slot
  · rw [Attention.notice_get]
    split
    · exact (hretired j b why' hj).addReasons _ _
    · exact hretired j b why' hj

theorem listsSound.notices {t : ClaimTable} {a : Attention} (h : listsSound t a) (why : Reason) (is : List RecIdx) :
    listsSound t (is.foldl (Attention.notice t why) a) := by
  induction is generalizing a with
  | nil => exact h
  | cons i is ih => exact ih (h.notice why i)

theorem carries.notices {t : ClaimTable} {a : Attention} {slot : Slot} {h : ClaimHandle} {m : ReasonSet}
    (hc : carries (a.get slot) h m) (why : Reason) (is : List RecIdx) :
    carries ((is.foldl (Attention.notice t why) a).get slot) h m := by
  induction is generalizing a with
  | nil => exact hc
  | cons i is ih =>
    refine ih ?_
    rw [Attention.notice_get]
    split
    · exact hc.addReasons _ _
    · exact hc

/-- R67: after some notices, each record noticed has its reason in its owner's list. -/
theorem listsSound.carries_notices {t : ClaimTable} {a : Attention} (h : listsSound t a) (why : Reason) {is : List RecIdx}
    {i : RecIdx} (hi : i ∈ is) {slot : Slot} (howner : t.ownerSlot i = some slot) :
    carries ((is.foldl (Attention.notice t why) a).get slot) (t.handle i) why.mask := by
  induction is generalizing a with
  | nil => cases hi
  | cons j is ih =>
    rcases List.mem_cons.mp hi with rfl | hmem
    · refine carries.notices ?_ why is
      rw [Attention.notice_get, if_pos howner]
      exact (h.1 slot).carries_addReasons i why.mask
    · exact ih (h.notice why j) hmem

theorem listsSound.device {t : ClaimTable} {a : Attention} (h : listsSound t a) (k : DeviceKind) (posted : Slot → Bool) :
    listsSound t (a.mapIdx fun slot l => if posted slot = true then addDevice k l else l) := by
  obtain ⟨hlists, hretired⟩ := h
  refine ⟨fun slot => ?_, fun j b why hj => ?_⟩ <;> rw [Table.get_mapIdx] <;> split
  · exact (hlists slot).addDevice k
  · exact hlists slot
  · exact (hretired j b why hj).addDevice k
  · exact hretired j b why hj

/-- Handles and owners standing, and the newly RETIRED records already told, the lists are sound over the new table. -/
theorem listsSound.relabel {t u : ClaimTable} {a : Attention} (h : listsSound t a) (hhandle : ∀ i, u.handle i = t.handle i)
    (howner : ∀ i, u.ownerSlot i = t.ownerSlot i)
    (hretired : ∀ i b why, (u.recs.get i).state = .retired b why →
      (t.recs.get i).state = .retired b why ∨ carries (a.get b.owner.slot) (t.handle i) why.reason.mask) :
    listsSound u a := by
  refine ⟨fun slot => (h.1 slot).sublist (List.Sublist.refl _) fun g _ _ => ⟨hhandle _, howner _⟩, fun i b why hi => ?_⟩
  rw [hhandle]
  rcases hretired i b why hi with hold | hnew
  · exact h.2 i b why hold
  · exact hnew

/-- Fewer entries, with every entry of a RETIRED record kept, are sound over a table in which the records still named
stand. -/
theorem listsSound.shrink {t u : ClaimTable} {a a' : Attention} (h : listsSound t a)
    (hsub : ∀ slot, (a'.get slot).Sublist (a.get slot))
    (hkept : ∀ slot g rs, .claim g rs ∈ a'.get slot →
      u.handle g.index = t.handle g.index ∧ u.ownerSlot g.index = t.ownerSlot g.index)
    (hretired : ∀ i b why, (u.recs.get i).state = .retired b why → (t.recs.get i).state = .retired b why
      ∧ u.handle i = t.handle i ∧ ∀ rs, .claim (t.handle i) rs ∈ a.get b.owner.slot →
          .claim (t.handle i) rs ∈ a'.get b.owner.slot) : listsSound u a' := by
  refine ⟨fun slot => (h.1 slot).sublist (hsub slot) (hkept slot), fun i b why hi => ?_⟩
  obtain ⟨hold, hhandle, hmem⟩ := hretired i b why hi
  obtain ⟨rs, hrs, hm⟩ := h.2 i b why hold
  rw [hhandle]
  exact ⟨rs, hmem rs hrs, hm⟩

/-- A record with a claim entry in a list is owned by that list's session. -/
theorem listsSound.owner {t : ClaimTable} {a : Attention} (h : listsSound t a) {slot : Slot} {g : ClaimHandle}
    {rs : ReasonSet} (hg : .claim g rs ∈ a.get slot) : t.ownerSlot g.index = some slot := ((h.1 slot).2.2 g rs hg).2.2

/-! ## The sessions, the owners and the lists together -/

/-- R48, R51, R53, R54, the keepalives at `low` or more. -/
def SessionTable.soundFrom (t : SessionTable) (low : Nat) : Prop :=
  t.oneMaintenance ∧ t.tagsDistinct ∧ t.lapsesListed
    ∧ ∀ slot, ∀ i ∈ t.info? slot, 10 ≤ i.interval ∧ i.interval ≤ 65535 ∧ low ≤ i.remaining ∧ i.remaining ≤ i.interval

/-- R1, R4, R49, R65: the rules of sessions, claims and lists over each other; those of the lists where `lists` asks for
them. -/
def attended (st : SessionTable) (t : ClaimTable) (a : Attention) (low : Nat) (lists : Prop) : Prop :=
  st.soundFrom low ∧ (∀ i id, t.ownerOf i = some id → st.isOpen id.slot = true ∧ st.idOf id.slot = id)
    ∧ (∀ slot, t.ownedCount (st.idOf slot) ≤ Config.maxOwned) ∧ (∀ slot, st.isOpen slot = false → a.get slot = [])
    ∧ (lists → listsSound t a)

theorem ownersInv_iff {s : State} : OwnersInv s ↔ attended s.sessions s.claims s.attention 1 False := by
  have howners : ownersOpen s ↔ ∀ i id, s.claims.ownerOf i = some id →
      s.sessions.isOpen id.slot = true ∧ s.sessions.idOf id.slot = id := by
    simp only [ownersOpen, ClaimTable.ownerOf, Option.map_eq_some_iff, Option.mem_def]
    exact ⟨fun h i id ⟨b, hb, hid⟩ => hid ▸ h i b hb, fun h i b hb => h i _ ⟨b, hb, rfl⟩⟩
  simp only [OwnersInv, howners, attended, false_implies, and_true]
  rfl

theorem listsInv_iff {s : State} : ListsInv s ↔ attended s.sessions s.claims s.attention 1 True := by
  have hattended : attended s.sessions s.claims s.attention 1 True ↔ OwnersInv s ∧ listsSound s.claims s.attention := by
    rw [ownersInv_iff]
    simp only [attended, true_implies, false_implies, and_true, and_assoc]
  rw [hattended]
  constructor
  · rintro ⟨howners, hrecords, hkinds, hclaims, hretired⟩
    exact ⟨howners, fun slot => ⟨hrecords slot, hkinds slot, hclaims slot⟩, hretired⟩
  · rintro ⟨howners, hlists, hretired⟩
    exact ⟨howners, fun slot => (hlists slot).1, fun slot => (hlists slot).2.1, fun slot => (hlists slot).2.2, hretired⟩

section Attended
variable {st : SessionTable} {t u : ClaimTable} {a a' : Attention} {low : Nat} {lists : Prop}

/-- No record is owned by a slot that is not OPEN. -/
theorem attended.ownerSlot_ne (h : attended st t a low lists) {slot : Slot} (hs : st.isOpen slot = false) (i : RecIdx) :
    t.ownerSlot i ≠ some slot := by
  rw [t.ownerSlot_eq]
  intro hi
  obtain ⟨id, hid, rfl⟩ := Option.map_eq_some_iff.mp hi
  rw [(h.2.1 i id hid).1] at hs
  cases hs

theorem attended.notices (h : attended st t a low lists) (why : Reason) (is : List RecIdx) :
    attended st t (is.foldl (Attention.notice t why) a) low lists := by
  have hnone := fun slot hs => Attention.notices_get_other t why is a slot fun i _ => h.ownerSlot_ne hs i
  obtain ⟨hsessions, howners, hcount, hempty, hlists⟩ := h
  exact ⟨hsessions, howners, hcount, fun slot hs => (hnone slot hs).trans (hempty slot hs), fun hl => (hlists hl).notices why is⟩

theorem attended.device (h : attended st t a low lists) (k : DeviceKind) {posted : Slot → Bool}
    (hposted : ∀ slot, posted slot = true → st.isOpen slot = true) :
    attended st t (a.mapIdx fun slot l => if posted slot = true then addDevice k l else l) low lists := by
  obtain ⟨hsessions, howners, hcount, hempty, hlists⟩ := h
  refine ⟨hsessions, howners, hcount, fun slot hs => ?_, fun hl => (hlists hl).device k posted⟩
  rw [Table.get_mapIdx, if_neg fun hp => by rw [hposted slot hp] at hs; cases hs]
  exact hempty slot hs

/-- Records freed and entries removed, no record changing its owner. -/
theorem attended.shrink (h : attended st t a low lists)
    (howner : ∀ i, u.ownerOf i = none ∨ u.ownerOf i = t.ownerOf i) (hsub : ∀ slot, (a'.get slot).Sublist (a.get slot))
    (hlists : lists → listsSound u a') : attended st u a' low lists := by
  obtain ⟨hsessions, howners, hcount, hempty, -⟩ := h
  have hback : ∀ i id, u.ownerOf i = some id → t.ownerOf i = some id := fun i id hi => by
    rcases howner i with hn | hs
    · rw [hn] at hi; cases hi
    · exact hs ▸ hi
  refine ⟨hsessions, fun i id hi => howners i id (hback i id hi), fun slot => ?_, fun slot hs => ?_, hlists⟩
  · exact (ClaimTable.ownedCount_le fun i => hback i _).trans (hcount slot)
  · have hnil := hsub slot
    rw [hempty slot hs] at hnil
    exact List.sublist_nil.mp hnil

/-- The records changed, their handles and owners standing. -/
theorem attended.relabel (h : attended st t a low lists) (hhandle : ∀ i, u.handle i = t.handle i)
    (howner : ∀ i, u.ownerOf i = t.ownerOf i)
    (hretired : ∀ i b why, (u.recs.get i).state = .retired b why → (t.recs.get i).state = .retired b why
      ∨ (lists → carries (a.get b.owner.slot) (t.handle i) why.reason.mask)) : attended st u a low lists :=
  h.shrink (fun i => .inr (howner i)) (fun _ => List.Sublist.refl _) fun hl =>
    (h.2.2.2.2 hl).relabel hhandle (fun i => by rw [u.ownerSlot_eq, t.ownerSlot_eq, howner]) fun i b why hi =>
      (hretired i b why hi).imp_right fun hc => hc hl

/-- One record given to an OPEN session with room for it. -/
theorem attended.give (h : attended st t a low lists) {i : RecIdx} {id : SessionId} (hopen : st.isOpen id.slot = true)
    (hid : st.idOf id.slot = id) (hroom : t.ownedCount id < Config.maxOwned) (hi : u.ownerOf i = some id)
    (hother : ∀ j, j ≠ i → u.ownerOf j = t.ownerOf j) (hempty : ∀ slot, st.isOpen slot = false → a'.get slot = [])
    (hlists : lists → listsSound u a') : attended st u a' low lists := by
  obtain ⟨hsessions, howners, hcount, -, -⟩ := h
  refine ⟨hsessions, fun j id' hj => ?_, fun slot => ?_, hempty, hlists⟩
  · by_cases hji : j = i
    · subst hji
      obtain rfl : id = id' := Option.some.inj (hi.symm.trans hj)
      exact ⟨hopen, hid⟩
    · exact howners j id' (hother j hji ▸ hj)
  · by_cases hslot : st.idOf slot = id
    · rw [hslot]
      exact (ClaimTable.ownedCount_le_succ fun j hji hj => hother j hji ▸ hj).trans hroom
    · refine (ClaimTable.ownedCount_le fun j hj => ?_).trans (hcount slot)
      by_cases hji : j = i
      · subst hji; exact absurd (Option.some.inj (hj.symm.trans hi)) hslot
      · exact hother j hji ▸ hj

/-- The session table changed, each slot OPEN or not as it was and under the same name. -/
theorem attended.sessions {st' : SessionTable} {low' : Nat} (h : attended st t a low lists) (hsound : st'.soundFrom low')
    (hopen : ∀ slot, st'.isOpen slot = st.isOpen slot) (hid : ∀ slot, st'.idOf slot = st.idOf slot) :
    attended st' t a low' lists := by
  obtain ⟨-, howners, hcount, hempty, hlists⟩ := h
  refine ⟨hsound, fun i id hi => ?_, fun slot => ?_, fun slot hs => hempty slot (hopen slot ▸ hs), hlists⟩
  · rw [hopen, hid]; exact howners i id hi
  · rw [hid]; exact hcount slot

end Attended

end Sys2Proof.Machine
end

section
/-! PROOFS. The rules of sessions, owners and attention lists (R1, R4, R24, R48, R51, R53, R54, R65), kept by every
command. -/

-- The whole text compiles close to the check's memory limit, so this part starts no threads of its own.
set_option Elab.async false

namespace Sys2Proof.Machine

/-! ## The session table -/

theorem SessionTable.isOpen_iff {t : SessionTable} {slot : Slot} :
    t.isOpen slot = true ↔ ∃ info, t.info? slot = some info := Option.isSome_iff_exists

/-- Sessions that keep port, role, tag and interval, with a new count and a new lapse list that is exact. -/
theorem SessionTable.soundFrom.of_infos {st st' : SessionTable} {low low' : Nat} (h : st.soundFrom low)
    (hinfo : ∀ k i', st'.info? k = some i' → ∃ i, st.info? k = some i ∧ i'.port = i.port ∧ i'.role = i.role
      ∧ i'.tag = i.tag ∧ i'.interval = i.interval ∧ low' ≤ i'.remaining ∧ i'.remaining ≤ i'.interval)
    (hlapses : st'.lapsesListed) : st'.soundFrom low' := by
  obtain ⟨hone, htags, -, hcounts⟩ := h
  refine ⟨fun a b ha hb => hone a b ?_ ?_, fun a b i' hi' j' hj' hport htag => ?_, hlapses, fun k i' hi' => ?_⟩
  · obtain ⟨i', hi', hrole⟩ := ha
    obtain ⟨i, hi, -, hr, -⟩ := hinfo a i' hi'
    exact ⟨i, hi, hr ▸ hrole⟩
  · obtain ⟨i', hi', hrole⟩ := hb
    obtain ⟨i, hi, -, hr, -⟩ := hinfo b i' hi'
    exact ⟨i, hi, hr ▸ hrole⟩
  · obtain ⟨i, hi, hp, -, ht, -⟩ := hinfo a i' hi'
    obtain ⟨j, hj, hp', -, ht', -⟩ := hinfo b j' hj'
    exact htags a b i hi j hj (hp ▸ hp' ▸ hport) (ht ▸ ht' ▸ htag)
  · obtain ⟨i, hi, -, -, -, hn, hlow, hle⟩ := hinfo k i' hi'
    obtain ⟨hmin, hmax, -⟩ := hcounts k i hi
    exact ⟨hn ▸ hmin, hn ▸ hmax, hlow, hle⟩

theorem SessionTable.soundFrom.weaken {st : SessionTable} (h : st.soundFrom 1) : st.soundFrom 0 :=
  ⟨h.1, h.2.1, h.2.2.1, fun k i hi =>
    ⟨(h.2.2.2 k i hi).1, (h.2.2.2 k i hi).2.1, Nat.zero_le _, (h.2.2.2 k i hi).2.2.2⟩⟩

theorem SessionTable.info?_congr {st st' : SessionTable} {k : Slot} (h : st'.recs.get k = st.recs.get k) :
    st'.info? k = st.info? k := by rw [SessionTable.info?, h]; rfl

theorem SessionTable.info?_of_state {st : SessionTable} {k : Slot} {state : SessionState}
    (h : (st.recs.get k).state = state) : st.info? k = state.info? := by rw [SessionTable.info?, h]

theorem SessionTable.soundFrom.same {st : SessionTable} {low : Nat} (h : st.soundFrom low) {k : Slot} {i : SessionInfo}
    (hi : st.info? k = some i) : ∃ j, st.info? k = some j ∧ i.port = j.port ∧ i.role = j.role
      ∧ i.tag = j.tag ∧ i.interval = j.interval ∧ low ≤ i.remaining ∧ i.remaining ≤ i.interval :=
  ⟨i, hi, rfl, rfl, rfl, rfl, (h.2.2.2 k i hi).2.2⟩

theorem SessionTable.reload_soundFrom {st : SessionTable} (h : st.soundFrom 1) {slot : Slot} {info : SessionInfo}
    (hi : st.info? slot = some info) : (st.reload slot).soundFrom 1 := by
  have hcounts := h.2.2.2 slot info hi
  refine h.of_infos (fun k i' hi' => ?_) ⟨h.2.2.1.1, fun k => ?_⟩
  · by_cases hk : k = slot
    · subst hk
      rw [SessionTable.info?, st.reload_recs k k info hi, if_pos rfl] at hi'
      cases hi'
      exact ⟨info, hi, rfl, rfl, rfl, rfl, Nat.le_trans (by decide) hcounts.1, le_rfl⟩
    · rw [SessionTable.info?_congr (st := st) (by rw [st.reload_recs slot k info hi, if_neg hk])] at hi'
      exact h.same hi'
  · rw [st.reload_recs slot k info hi]
    split
    next hk =>
      subst hk
      refine (h.2.2.1.2 k).trans (iff_of_false ?_ (by simp))
      rw [SessionTable.info?_eq_some.mp hi]
      simp
    next => exact h.2.2.1.2 k

theorem SessionTable.closeLapsed_soundFrom {st : SessionTable} (h : st.soundFrom 1) {slot : Slot} :
    (st.closeLapsed slot).soundFrom 1 := by
  obtain ⟨hnodup, hmem⟩ := h.2.2.1
  refine h.of_infos (fun k i' hi' => ?_) ⟨hnodup.erase _, fun k => ?_⟩
  · by_cases hk : k = slot
    · rw [SessionTable.info?, st.closeLapsed_recs slot k, if_pos hk] at hi'
      cases hi'
    · rw [SessionTable.info?_congr (st := st) (by rw [st.closeLapsed_recs slot k, if_neg hk])] at hi'
      exact h.same hi'
  · rw [st.closeLapsed_recs slot k, SessionTable.closeLapsed, hnodup.mem_erase_iff, hmem]
    by_cases hk : k = slot <;> simp [hk]

theorem SessionTable.closeLapsed_isOpen {st : SessionTable} {slot : Slot} (hl : (st.recs.get slot).state = .lapsed)
    (k : Slot) : (st.closeLapsed slot).isOpen k = st.isOpen k := by
  rw [SessionTable.isOpen, SessionTable.isOpen, SessionTable.info?, st.closeLapsed_recs slot k]
  split
  next hk => subst hk; rw [SessionTable.info?_of_state hl]; rfl
  next => rfl

theorem SessionTable.reload_isOpen {st : SessionTable} {slot : Slot} {info : SessionInfo}
    (hi : st.info? slot = some info) (k : Slot) : (st.reload slot).isOpen k = st.isOpen k := by
  rw [SessionTable.isOpen, SessionTable.isOpen, SessionTable.info?, st.reload_recs slot k info hi]
  split
  next hk => subst hk; rw [hi]; rfl
  next => rfl

theorem SessionTable.idOf_congr {st st' : SessionTable} {k : Slot} (h : (st'.recs.get k).gen = (st.recs.get k).gen) :
    st'.idOf k = st.idOf k := by rw [SessionTable.idOf, h]; rfl

theorem SessionTable.reload_idOf (st : SessionTable) (slot k : Slot) : (st.reload slot).idOf k = st.idOf k := by
  refine SessionTable.idOf_congr ?_
  rw [SessionTable.reload, Table.get_modify]
  split
  next hk => rw [hk]
  next => rfl

theorem SessionTable.closeLapsed_idOf (st : SessionTable) (slot k : Slot) : (st.closeLapsed slot).idOf k = st.idOf k := by
  refine SessionTable.idOf_congr ?_
  rw [st.closeLapsed_recs slot k]
  split
  next hk => rw [hk]
  next => rfl

/-! ## The rules over the state -/

/-- The rules of sessions, claims and lists over each other, of one state. -/
def State.rulesHold (s : State) (low : Nat) (lists : Prop) : Prop := attended s.sessions s.claims s.attention low lists

section Rules
variable {s t : State} {low : Nat} {lists : Prop}

theorem State.rulesHold.of_same (h : s.rulesHold low lists) (hs : t.sessions = s.sessions) (hc : t.claims = s.claims)
    (ha : t.attention = s.attention) : t.rulesHold low lists := by
  rw [State.rulesHold, hs, hc, ha]
  exact h

theorem State.rulesHold.weaken (h : s.rulesHold 1 lists) : s.rulesHold 0 lists := ⟨h.1.weaken, h.2⟩

/-- R58, R59: the session-handle check. -/
theorem State.rulesHold.checked (h : s.rulesHold 1 lists) {st : SessionTable} (hc : s.sessions.checkedTo st) :
    { s with sessions := st }.rulesHold 1 lists := by
  rcases hc with rfl | ⟨slot, hl, rfl⟩ | ⟨slot, info, hi, rfl⟩
  · exact h
  · exact attended.sessions h (SessionTable.closeLapsed_soundFrom h.1) (SessionTable.closeLapsed_isOpen hl)
      (s.sessions.closeLapsed_idOf slot)
  · exact attended.sessions h (SessionTable.reload_soundFrom h.1 hi) (SessionTable.reload_isOpen hi)
      (s.sessions.reload_idOf slot)

/-! ### Notices -/

theorem State.rulesHold.notices (h : s.rulesHold low lists) (is : List RecIdx) (why : Reason) :
    (s.notices is why).rulesHold low lists := attended.notices h why is

theorem State.rulesHold.deviceNotice (h : s.rulesHold low lists) (k : DeviceKind) :
    (s.deviceNotice k).rulesHold low lists := attended.device h k (posted := s.sessions.isOpen) fun _ hp => hp

theorem State.rulesHold.maintenanceNotice (h : s.rulesHold low lists) (k : DeviceKind) :
    (s.maintenanceNotice k).rulesHold low lists :=
  attended.device h k fun slot hp => by
    cases hi : s.sessions.info? slot with
    | none => simp [hi] at hp
    | some info => exact SessionTable.isOpen_iff.mpr ⟨info, hi⟩

theorem State.rulesHold.handTops (h : s.rulesHold low lists) (before : ClaimTable) (cs : List Chan) :
    (s.handTops before cs).rulesHold low lists := attended.notices h .resumed _

theorem State.rulesHold.takeFaultNotice (h : s.rulesHold low lists) (c : Chan) :
    (s.takeFaultNotice c).rulesHold low lists := by
  unfold State.takeFaultNotice
  split
  · exact attended.notices h .fault _
  · exact h

/-! ### Retirement -/

theorem State.rulesHold.retireAll (h : s.rulesHold low lists) (is : List RecIdx) (why : RetireReason) :
    (s.retireAll is why).rulesHold low lists := by
  refine attended.relabel (attended.notices h why.reason is) (fun i => s.claims.retireAll_handle _ is i)
    (fun i => s.claims.retireAll_ownerOf why is i) fun i b why' hi => ?_
  rcases ClaimTable.retireAll_retired hi with hold | ⟨hmem, rfl, hlive⟩
  · exact .inl hold
  · refine .inr fun hl => (h.2.2.2.2 hl).carries_notices _ hmem ?_
    rw [s.claims.ownerSlot_eq, ClaimTable.ownerOf_of_body? (ClaimTable.body?_of_live? hlive)]
    rfl

theorem State.rulesHold.retireOne (h : s.rulesHold low lists) (i : RecIdx) (why : RetireReason) :
    (s.retireOne i why).rulesHold low lists := (h.retireAll [i] why).handTops _ _

theorem State.rulesHold.retireMany (h : s.rulesHold low lists) (is : List RecIdx) (why : RetireReason) :
    (s.retireMany is why).rulesHold low lists := (h.retireAll is why).handTops _ _

theorem State.rulesHold.decrementLeases (h : s.rulesHold low lists) : s.decrementLeases.rulesHold low lists := by
  refine attended.relabel (u := s.claims.counted) h (fun i => s.claims.counted_handle i) s.claims.counted_ownerOf
    fun i b why hi => .inl ?_
  rw [ClaimTable.counted_state] at hi
  cases hs : (s.claims.recs.get i).state with
  | free => rw [hs] at hi; cases hi
  | live b' => rw [hs] at hi; cases hi
  | retired b' why' => rw [hs] at hi; exact hi

theorem State.rulesHold.enterLapsed (h : s.rulesHold low lists) : s.enterLapsed.rulesHold low lists :=
  State.rulesHold.deviceNotice (s := { s.sweep with supervisor := _ }) (h.retireMany _ _) .timebase

theorem State.rulesHold.windowEnd (h : s.rulesHold low lists) : s.windowEnd.rulesHold low lists := by
  have hended : { s with supervisor := s.supervisor.windowEnded }.rulesHold low lists := h
  unfold State.windowEnd
  dsimp only
  repeat' split
  all_goals first
    | exact hended
    | exact hended.deviceNotice .timebase

/-! ### The end and the lapse of a session -/

theorem SessionTable.ended_recs {st : SessionTable} (slot k : Slot) (state : SessionState) (l : List Slot) :
    ({ recs := st.recs.modify slot fun r => { r with state := state }, lapseList := l : SessionTable }).recs.get k
      = if k = slot then { st.recs.get slot with state := state } else st.recs.get k := by
  simp [Table.get_modify]

theorem SessionTable.ended_soundFrom {st : SessionTable} (h : st.soundFrom low) {slot : Slot} {info : SessionInfo}
    (hi : st.info? slot = some info) (lapses : Bool) :
    SessionTable.soundFrom
      { recs := st.recs.modify slot fun r => { r with state := if lapses then .lapsed else .closed }
        lapseList := if lapses then st.lapseList ++ [slot] else st.lapseList } low := by
  obtain ⟨hnodup, hmem⟩ := h.2.2.1
  have hnot : slot ∉ st.lapseList := by
    rw [hmem, SessionTable.info?_eq_some.mp hi]
    simp
  refine h.of_infos (fun k i' hi' => ?_) ⟨?_, fun k => ?_⟩
  · by_cases hk : k = slot
    · rw [SessionTable.info?, SessionTable.ended_recs, if_pos hk] at hi'
      cases lapses <;> cases hi'
    · rw [SessionTable.info?_congr (st := st) (by rw [SessionTable.ended_recs, if_neg hk])] at hi'
      exact h.same hi'
  · cases lapses
    · exact hnodup
    · exact List.Nodup.append hnodup (List.nodup_singleton _) (by simpa using hnot)
  · rw [SessionTable.ended_recs]
    by_cases hk : k = slot
    · subst hk
      cases lapses <;> simp [hnot]
    · cases lapses <;> simp [hk, hmem]

theorem SessionTable.ended_isOpen {st : SessionTable} {slot k : Slot} (hk : k ≠ slot) (state : SessionState) (l : List Slot) :
    ({ recs := st.recs.modify slot fun r => { r with state := state }, lapseList := l : SessionTable }).isOpen k
      = st.isOpen k := by
  rw [SessionTable.isOpen, SessionTable.info?_congr (st := st) (by rw [SessionTable.ended_recs, if_neg hk])]
  rfl

theorem SessionTable.ended_idOf {st : SessionTable} (slot k : Slot) (state : SessionState) (l : List Slot) :
    ({ recs := st.recs.modify slot fun r => { r with state := state }, lapseList := l : SessionTable }).idOf k
      = st.idOf k := by
  refine SessionTable.idOf_congr ?_
  rw [SessionTable.ended_recs]
  split
  next hk => rw [hk]
  next => rfl

end Rules

/-- Some records freed, the entries of no other RETIRED record removed. -/
theorem attended.free {st : SessionTable} {t : ClaimTable} {a a' : Attention} {low : Nat} {lists : Prop}
    (h : attended st t a low lists) (is : List RecIdx) (hsub : ∀ slot, (a'.get slot).Sublist (a.get slot))
    (hgone : lists → ∀ slot g rs, .claim g rs ∈ a'.get slot → g.index ∉ is)
    (hstay : lists → ∀ j b why rs, j ∉ is → (t.recs.get j).state = .retired b why →
      .claim (t.handle j) rs ∈ a.get b.owner.slot → .claim (t.handle j) rs ∈ a'.get b.owner.slot) :
    attended st (is.foldl ClaimTable.free t) a' low lists := by
  refine h.shrink (fun i => ?_) hsub fun hl => (h.2.2.2.2 hl).shrink hsub (fun slot g rs hg => ?_) fun j b why hj => ?_
  · rw [ClaimTable.freeAll_ownerOf]
    split
    · exact .inl rfl
    · exact .inr rfl
  · refine ⟨by simp, ?_⟩
    rw [ClaimTable.ownerSlot_eq, ClaimTable.ownerSlot_eq, ClaimTable.freeAll_ownerOf, if_neg (hgone hl slot g rs hg)]
  · rw [ClaimTable.freeAll_recs] at hj
    split at hj
    · cases hj
    next hmem => exact ⟨hj, by simp, fun rs hrs => hstay hl j b why rs hmem hj hrs⟩

/-- R62: the end of the session in `slot`. -/
theorem State.rulesHold.endSession {s : State} {low : Nat} {lists : Prop} (h : s.rulesHold low lists) {slot : Slot}
    {info info' : SessionInfo} (hi : s.sessions.info? slot = some info') (lapses : Bool) :
    (s.endSession slot info lapses).rulesHold low lists := by
  have howned : ∀ i id, s.claims.ownerOf i = some id → id.slot = slot → i ∈ s.claims.owned (s.sessions.idOf slot) := by
    intro i id hid hs
    rw [ClaimTable.mem_owned, hid, ← hs, (h.2.1 i id hid).2]
  have hfreed : attended s.sessions ((s.claims.owned (s.sessions.idOf slot)).foldl ClaimTable.free s.claims)
      (s.attention.set slot []) low lists := by
    refine attended.free h _ (fun k => ?_) (fun hl k g rs hg hmem => ?_) fun hl j b why rs hmem hj hrs => ?_
    · rw [Table.get_set]
      split
      · exact List.nil_sublist _
      · exact List.Sublist.refl _
    · rw [Table.get_set] at hg
      split at hg
      · cases hg
      next hk =>
        have howner := (h.2.2.2.2 hl).owner hg
        rw [s.claims.ownerSlot_eq, ClaimTable.mem_owned.mp hmem] at howner
        exact hk (Option.some.inj howner).symm
    · rw [Table.get_set, if_neg fun hs => hmem (howned j b.owner ?_ hs)]
      · exact hrs
      · exact ClaimTable.ownerOf_of_body? (by rw [ClaimTable.body?, hj]; rfl)
  have hnone : ∀ i, ((s.claims.owned (s.sessions.idOf slot)).foldl ClaimTable.free s.claims).ownerSlot i ≠ some slot := by
    intro i hs
    rw [ClaimTable.ownerSlot_eq, ClaimTable.freeAll_ownerOf] at hs
    split at hs
    · cases hs
    next hmem =>
      obtain ⟨id, hid, hslot⟩ := Option.map_eq_some_iff.mp hs
      exact hmem (howned i id hid hslot)
  have htold := hfreed.notices .resumed ((((s.claims.owned (s.sessions.idOf slot)).foldl ClaimTable.free
    s.claims).changedTops s.claims allChans).filterMap
      ((s.claims.owned (s.sessions.idOf slot)).foldl ClaimTable.free s.claims).top)
  have hswap : (s.endSession slot info lapses).attention
      = (((((s.claims.owned (s.sessions.idOf slot)).foldl ClaimTable.free s.claims).changedTops s.claims
          allChans).filterMap ((s.claims.owned (s.sessions.idOf slot)).foldl ClaimTable.free s.claims).top).foldl
          (Attention.notice ((s.claims.owned (s.sessions.idOf slot)).foldl ClaimTable.free s.claims) .resumed)
          (s.attention.set slot [])) := by
    refine Table.ext_get fun k => ?_
    rw [State.endSession, Table.get_set]
    split
    next hk =>
      rw [Attention.notices_get_other _ _ _ _ _ fun i _ => hk ▸ hnone i, hk, Table.get_set_self]
    next hk =>
      rw [Attention.notices_get, Table.get_set_ne _ _ hk, ← Attention.notices_get]
      rfl
  obtain ⟨hsound, howners, hcount, hempty, hlists⟩ := htold
  rw [State.rulesHold, hswap]
  refine ⟨SessionTable.ended_soundFrom hsound hi lapses, fun i id hid => ?_, fun k => ?_, fun k hk => ?_, hlists⟩
  · obtain ⟨hopen, hname⟩ := howners i id hid
    have hne : id.slot ≠ slot := fun hs => hnone i ((ClaimTable.ownerSlot_eq _ i).trans ((congrArg (Option.map SessionId.slot) hid).trans
      (congrArg some hs)))
    exact ⟨(SessionTable.ended_isOpen hne _ _).trans hopen, (SessionTable.ended_idOf slot id.slot _ _).trans hname⟩
  · exact (congrArg _ (SessionTable.ended_idOf slot k _ _)).trans_le (hcount k)
  · by_cases hks : k = slot
    · rw [Attention.notices_get_other _ _ _ _ _ fun i _ => hks ▸ hnone i, hks, Table.get_set_self]
    · exact hempty k ((SessionTable.ended_isOpen hks _ _).symm.trans hk)

end Sys2Proof.Machine
end

section
/-! PROOFS. The rules of sessions, owners and attention lists, continued: the lapse of sessions, the requests that change
them, and every step. -/

-- The whole text compiles close to the check's memory limit, so this part starts no threads of its own.
set_option Elab.async false

namespace Sys2Proof.Machine

/-! ## Ticks of the session table -/

theorem Session.keepaliveTick_info? (r : Session) :
    r.keepaliveTick.state.info? = r.state.info?.map fun info => { info with remaining := info.remaining - 1 } := by
  unfold Session.keepaliveTick
  split
  next h => rw [h]; rfl
  next h => rw [h]; rfl
  next h => rw [h]; rfl

theorem Session.keepaliveTick_gen (r : Session) : r.keepaliveTick.gen = r.gen := by
  unfold Session.keepaliveTick
  split <;> rfl

theorem Session.keepaliveTick_lapsed (r : Session) : r.keepaliveTick.state = .lapsed ↔ r.state = .lapsed := by
  unfold Session.keepaliveTick
  split
  next h => simp [h]
  next h => rw [h]
  next h => rw [h]

section Rules
variable {s : State} {lists : Prop}

theorem State.decrementKeepalives_info? (s : State) (k : Slot) :
    s.decrementKeepalives.sessions.info? k
      = (s.sessions.info? k).map fun info => { info with remaining := info.remaining - 1 } := by
  rw [SessionTable.info?, State.decrementKeepalives, Table.get_map]
  exact Session.keepaliveTick_info? _

/-- R61: the keepalives counted, each at 0 or more. -/
theorem State.rulesHold.decrementKeepalives (h : s.rulesHold 1 lists) : s.decrementKeepalives.rulesHold 0 lists := by
  refine attended.sessions h (h.1.of_infos (fun k i' hi' => ?_) ⟨h.1.2.2.1.1, fun k => ?_⟩) (fun k => ?_) fun k => ?_
  · rw [s.decrementKeepalives_info?] at hi'
    obtain ⟨i, hi, rfl⟩ := Option.map_eq_some_iff.mp hi'
    exact ⟨i, hi, rfl, rfl, rfl, rfl, Nat.zero_le _, (Nat.sub_le _ _).trans (h.1.2.2.2 k i hi).2.2.2⟩
  · refine (h.1.2.2.1.2 k).trans ?_
    rw [State.decrementKeepalives, Table.get_map, Session.keepaliveTick_lapsed]
  · rw [SessionTable.isOpen, s.decrementKeepalives_info?, Option.isSome_map]
    rfl
  · refine SessionTable.idOf_congr ?_
    rw [State.decrementKeepalives, Table.get_map, Session.keepaliveTick_gen]

theorem State.rulesHold.lapseSlot (h : s.rulesHold 0 lists) (slot : Slot) : (s.lapseSlot slot).rulesHold 0 lists := by
  unfold State.lapseSlot
  split
  next info hi =>
    split
    · exact h.endSession hi true
    · exact h
  next => exact h

theorem State.lapseSlot_info?_self {slot : Slot} {i : SessionInfo}
    (hi : (s.lapseSlot slot).sessions.info? slot = some i) : 1 ≤ i.remaining := by
  unfold State.lapseSlot at hi
  split at hi
  next info hopen =>
    split at hi
    · rw [State.endSession, SessionTable.info?, SessionTable.ended_recs, if_pos rfl] at hi
      cases hi
    next hrem =>
      obtain rfl := Option.some.inj (hopen.symm.trans hi)
      exact Nat.pos_of_ne_zero hrem
  next hnone => rw [hnone] at hi; cases hi

theorem State.lapseSlot_info?_other {slot k : Slot} (hk : k ≠ slot) :
    (s.lapseSlot slot).sessions.info? k = s.sessions.info? k := by
  unfold State.lapseSlot
  split
  · split
    · exact SessionTable.info?_congr (by rw [State.endSession, SessionTable.ended_recs, if_neg hk])
    · rfl
  · rfl

/-- The slots dealt with have a tick left. -/
theorem State.rulesHold.lapseSlots {slots : List Slot} (h : s.rulesHold 0 lists)
    (hdone : ∀ k, k ∉ slots → ∀ i ∈ s.sessions.info? k, 1 ≤ i.remaining) :
    (slots.foldl State.lapseSlot s).rulesHold 1 lists := by
  induction slots generalizing s with
  | nil =>
    exact ⟨⟨h.1.1, h.1.2.1, h.1.2.2.1, fun k i hi =>
      ⟨(h.1.2.2.2 k i hi).1, (h.1.2.2.2 k i hi).2.1, hdone k List.not_mem_nil i hi, (h.1.2.2.2 k i hi).2.2.2⟩⟩, h.2⟩
  | cons slot slots ih =>
    refine ih (h.lapseSlot slot) fun k hk i hi => ?_
    by_cases hks : k = slot
    · subst hks
      exact State.lapseSlot_info?_self hi
    · rw [State.lapseSlot_info?_other hks] at hi
      exact hdone k (by simp [hks, hk]) i hi

theorem State.rulesHold.lapseSessions (h : s.rulesHold 0 lists) : s.lapseSessions.rulesHold 1 lists :=
  State.rulesHold.lapseSlots h fun k hk => absurd (List.mem_finRange k) hk

theorem State.rulesHold.blockTick (h : s.rulesHold 1 lists) (b : TickTaker) : (s.blockTick b).rulesHold 1 lists := by
  rw [State.blockTick.eq_def]
  cases b with
  | claimTable => exact h.decrementLeases.retireMany _ _
  | sessionTable => exact h.decrementKeepalives.lapseSessions
  | outputStage => exact h.of_same (by simp) (by simp) (by simp)
  | readbackMonitor => exact h.of_same (by simp) (by simp) (by simp)
  | supervisor =>
    unfold State.lapseIfOut
    dsimp only
    split
    · exact State.rulesHold.enterLapsed (h.of_same (by simp) (by simp) (by simp))
    · exact h.of_same (by simp) (by simp) (by simp)

theorem State.rulesHold.takeTick (h : s.rulesHold 1 lists) (b : TickTaker) : (s.takeTick b).rulesHold 1 lists :=
  State.takeTick_keeps (P := fun u => u.rulesHold 1 lists) (fun _ _ hu => hu) (fun _ hu => hu.blockTick b) h

/-! ## The claim table's requests -/

/-- A LIVE record with new fields and the same owner. -/
theorem State.rulesHold.rewrite (h : s.rulesHold 1 lists) {i : RecIdx} {b b' : ClaimBody} (hlive : s.claims.live? i = some b)
    (howner : b'.owner = b.owner) : { s with claims := s.claims.setState i (.live b') }.rulesHold 1 lists := by
  refine attended.relabel h (fun j => s.claims.setState_handle i j _) (fun j => ?_) fun j c why hj => .inl ?_
  · rw [ClaimTable.setState_ownerOf]
    split
    next hji => subst hji; rw [ClaimTable.ownerOf_of_body? (ClaimTable.body?_of_live? hlive), ← howner]; rfl
    next => rfl
  · rw [ClaimTable.setState_recs] at hj
    split at hj
    · cases hj
    next => exact hj

theorem State.rulesHold.storeAndReport (h : s.rulesHold 1 lists) {i : RecIdx} {b : ClaimBody}
    (hlive : s.claims.live? i = some b) (news : List Pair) : (s.storeAndReport i b news).rulesHold 1 lists :=
  h.rewrite hlive rfl

theorem mem_removeEntry {i : RecIdx} {e : Entry} {l : List Entry} : e ∈ removeEntry i l ↔ e ∈ l ∧ e.isFor i = false := by
  simp [removeEntry]

theorem removed_sublist (a : Attention) (slot k : Slot) (i : RecIdx) :
    ((a.modify slot (removeEntry i)).get k).Sublist (a.get k) := by
  rw [Table.get_modify]
  split
  next hk => subst hk; exact List.filter_sublist
  next => exact List.Sublist.refl _

/-- An entry for another record stays when a record's entry is removed. -/
theorem mem_removed_of_ne {a : Attention} {slot k : Slot} {i : RecIdx} {g : ClaimHandle} {rs : ReasonSet}
    (hg : .claim g rs ∈ a.get k) (hi : g.index ≠ i) : .claim g rs ∈ (a.modify slot (removeEntry i)).get k := by
  rw [Table.get_modify]
  split
  next hk => subst hk; exact mem_removeEntry.mpr ⟨hg, by simpa [Entry.isFor] using hi⟩
  next => exact hg

/-- With the entry of a record removed from its owner's list, no list holds one for it. -/
theorem listsSound.index_ne {t : ClaimTable} {a : Attention} (h : listsSound t a) {slot k : Slot} {i : RecIdx}
    (howner : t.ownerSlot i = some slot) {g : ClaimHandle} {rs : ReasonSet}
    (hg : .claim g rs ∈ (a.modify slot (removeEntry i)).get k) : g.index ≠ i := by
  rintro rfl
  have hold := h.owner ((removed_sublist a slot k _).subset hg)
  obtain rfl : slot = k := Option.some.inj (howner.symm.trans hold)
  rw [Table.get_modify_self] at hg
  simpa [Entry.isFor] using (mem_removeEntry.mp hg).2

/-- R19, R74. -/
theorem State.rulesHold.releaseRecord (h : s.rulesHold 1 lists) {i : RecIdx} {b : ClaimBody} (hb : s.claims.body? i = some b) :
    (s.releaseRecord i b).rulesHold 1 lists := by
  have howner : s.claims.ownerSlot i = some b.owner.slot := by
    rw [s.claims.ownerSlot_eq, ClaimTable.ownerOf_of_body? hb]
    rfl
  have hfreed : attended s.sessions (s.claims.free i) (s.attention.modify b.owner.slot (removeEntry i)) 1 lists := by
    refine attended.free h [i] (fun k => removed_sublist s.attention _ k i) (fun hl k g rs hg => ?_)
      fun hl j c why rs hj hstate hrs => ?_
    · simpa using (h.2.2.2.2 hl).index_ne howner hg
    · exact mem_removed_of_ne hrs (by simpa using hj)
  exact State.rulesHold.handTops (s := { s with
    claims := s.claims.free i
    attention := s.attention.modify b.owner.slot (removeEntry i) }) hfreed _ _

theorem listsSound.join {t : ClaimTable} {a : Attention} (h : listsSound t a) {slot : Slot} {i : RecIdx} {why : ReasonSet}
    (howner : t.ownerSlot i = some slot) (hwhy : why ≠ 0#8) :
    listsSound t (a.modify slot (addReasons (t.handle i) why)) := by
  refine ⟨fun k => ?_, fun j b why' hj => ?_⟩ <;> rw [Table.get_modify] <;> split
  next hk => subst hk; exact (h.1 k).addReasons howner hwhy
  next => exact h.1 k
  next hk => subst hk; exact (h.2 j b why' hj).addReasons _ _
  next => exact h.2 j b why' hj

/-- R21, R75. -/
theorem State.rulesHold.transferRecord (h : s.rulesHold 1 lists) {i : RecIdx} {b : ClaimBody} {slot : Slot}
    (hlive : s.claims.live? i = some b) (hopen : s.sessions.isOpen slot = true) (hne : slot ≠ b.owner.slot)
    (hroom : s.claims.ownedCount (s.sessions.idOf slot) < Config.maxOwned) :
    (s.transferRecord i b slot).rulesHold 1 lists := by
  have howner : s.claims.ownerSlot i = some b.owner.slot := by
    rw [s.claims.ownerSlot_eq, ClaimTable.ownerOf_of_body? (ClaimTable.body?_of_live? hlive)]
    rfl
  have hself : (s.claims.setState i (.live { b with owner := s.sessions.idOf slot })).ownerOf i
      = some (s.sessions.idOf slot) := by
    rw [ClaimTable.setState_ownerOf, if_pos rfl]
    rfl
  have hother : ∀ j, j ≠ i → (s.claims.setState i (.live { b with owner := s.sessions.idOf slot })).ownerOf j
      = s.claims.ownerOf j := fun j hj => by rw [ClaimTable.setState_ownerOf, if_neg hj]
  have hempty : ∀ k, s.sessions.isOpen k = false → s.attention.get k = [] := h.2.2.2.1
  refine attended.give h (i := i) (id := s.sessions.idOf slot) hopen rfl hroom hself hother (fun k hk => ?_) fun hl => ?_
  · have hks : k ≠ slot := by rintro rfl; exact Bool.noConfusion (hopen.symm.trans hk)
    have hnil := removed_sublist s.attention b.owner.slot k i
    rw [hempty k hk] at hnil
    rw [State.transferRecord, Table.get_modify_ne _ _ hks]
    exact List.sublist_nil.mp hnil
  · have hbefore := h.2.2.2.2 hl
    have hremoved : listsSound (s.claims.setState i (.live { b with owner := s.sessions.idOf slot }))
        (s.attention.modify b.owner.slot (removeEntry i)) := by
      refine hbefore.shrink (fun k => removed_sublist _ _ k i) (fun k g rs hg => ⟨s.claims.setState_handle i _ _, ?_⟩)
        fun j c why hj => ?_
      · rw [ClaimTable.ownerSlot_eq, ClaimTable.ownerSlot_eq, hother _ (hbefore.index_ne howner hg)]
      · rw [ClaimTable.setState_recs] at hj
        split at hj
        · cases hj
        next hji => exact ⟨hj, s.claims.setState_handle i j _, fun rs hrs => mem_removed_of_ne hrs hji⟩
    have hjoined := hremoved.join (i := i) (slot := slot)
      (why := reasonsFor i (s.attention.get b.owner.slot) ||| Reason.adopted.mask)
      (by rw [ClaimTable.ownerSlot_eq, hself]; rfl) (ReasonSet.or_ne_zero (by decide))
    rwa [ClaimTable.setState_handle] at hjoined

theorem claimDeviceRefusal_room {who : Requester} {q : ClaimParams} (h : claimDeviceRefusal s who q = none) :
    s.claims.ownedCount (s.requesterId who) < Config.maxOwned := by
  unfold claimDeviceRefusal at h
  repeat' split at h
  all_goals first
    | omega
    | cases h

/-- R13, R15. -/
theorem State.rulesHold.grant (h : s.rulesHold 1 lists) {i : RecIdx} {b : ClaimBody} (hfree : s.claims.isFree i = true)
    (hopen : s.sessions.isOpen b.owner.slot = true) (hid : s.sessions.idOf b.owner.slot = b.owner)
    (hroom : s.claims.ownedCount b.owner < Config.maxOwned) : (s.grant i b).rulesHold 1 lists := by
  have hnotices := attended.notices h .preempted
    (((s.claims.grant i b).changedTops s.claims b.chans).filterMap s.claims.top)
  have hnone : s.claims.ownerOf i = none := by
    rw [ClaimTable.ownerOf, ClaimTable.body?, ClaimTable.isFree_iff.mp hfree]
    rfl
  have hother : ∀ j, j ≠ i → (s.claims.grant i b).ownerOf j = s.claims.ownerOf j := fun j hj => by
    rw [ClaimTable.grant_ownerOf, if_neg hj]
  have hhandle : ∀ j, j ≠ i → (s.claims.grant i b).handle j = s.claims.handle j := fun j hj =>
    ClaimTable.handle_congr (congrArg ClaimRecord.gen (s.claims.grant_other b hj))
  refine attended.give hnotices (i := i) hopen hid hroom
    ((s.claims.grant_ownerOf i i b).trans (if_pos rfl)) hother
    hnotices.2.2.2.1 fun hl => ?_
  refine (hnotices.2.2.2.2 hl).shrink (fun k => List.Sublist.refl _) (fun k g rs hg => ?_) fun j c why hj => ?_
  · have hne : g.index ≠ i := by
      rintro rfl
      have howner := (hnotices.2.2.2.2 hl).owner hg
      rw [ClaimTable.ownerSlot_eq, hnone] at howner
      cases howner
    exact ⟨hhandle _ hne, (ClaimTable.ownerSlot_eq _ _).trans
      ((congrArg (Option.map SessionId.slot) (hother _ hne)).trans (ClaimTable.ownerSlot_eq _ _).symm)⟩
  · by_cases hji : j = i
    · subst hji
      rw [show (State.grant s j b).claims.recs.get j = _ from s.claims.grant_self j b] at hj
      cases hj
    · rw [show (State.grant s i b).claims.recs.get j = _ from s.claims.grant_other b hji] at hj
      exact ⟨hj, hhandle j hji, fun _ hrs => hrs⟩

/-! ## FETCH -/

/-- R72: the record a FETCH frees, if it does. -/
def ClaimTable.fetched (t : ClaimTable) : Entry → List RecIdx
  | .claim h _ =>
    match (t.recs.get h.index).state with
    | .retired _ _ => [h.index]
    | .live _ => []
    | .free => []
  | .device _ => []

theorem ClaimTable.freeFetched_eq (t : ClaimTable) (e : Entry) : t.freeFetched e = (t.fetched e).foldl ClaimTable.free t := by
  cases e with
  | device k => rfl
  | claim h rs => cases hs : (t.recs.get h.index).state <;> simp [ClaimTable.freeFetched, ClaimTable.fetched, hs]

theorem ClaimTable.mem_fetched {t : ClaimTable} {e : Entry} {i : RecIdx} :
    i ∈ t.fetched e ↔ e.isFor i = true ∧ ∃ b why, (t.recs.get i).state = .retired b why := by
  cases e with
  | device k => simp [ClaimTable.fetched, Entry.isFor]
  | claim h rs =>
    simp only [ClaimTable.fetched, Entry.isFor_claim]
    split
    next hs => exact ⟨fun hi => ⟨(List.mem_singleton.mp hi).symm, _, _, (List.mem_singleton.mp hi) ▸ hs⟩,
      fun hi => List.mem_singleton.mpr hi.1.symm⟩
    next hs => exact iff_of_false List.not_mem_nil fun ⟨hi, b, why, hr⟩ => by rw [← hi, hs] at hr; cases hr
    next hs => exact iff_of_false List.not_mem_nil fun ⟨hi, b, why, hr⟩ => by rw [← hi, hs] at hr; cases hr

theorem State.rulesHold.fetch (h : s.rulesHold 1 lists) {slot : Slot} {e : Entry} {rest : List Entry}
    (hhead : s.attention.get slot = e :: rest) :
    { s with attention := s.attention.set slot rest, claims := s.claims.freeFetched e }.rulesHold 1 lists := by
  rw [State.rulesHold, s.claims.freeFetched_eq e]
  refine attended.free h _ (fun k => ?_) (fun hl k g rs hg hmem => ?_) fun hl j b why rs hj hstate hrs => ?_
  · rw [Table.get_set]
    split
    next hk => rw [hk, hhead]; exact List.sublist_cons_self e rest
    next => exact List.Sublist.refl _
  · obtain ⟨hfor, -⟩ := ClaimTable.mem_fetched.mp hmem
    obtain ⟨hlist, hretired⟩ := h.2.2.2.2 hl
    rw [Table.get_set] at hg
    split at hg
    next hk =>
      have hone := (hlist slot).1 g.index
      rw [hhead, List.filter_cons_of_pos hfor, List.length_cons] at hone
      have hnone : rest.filter (Entry.isFor g.index) = [] := List.length_eq_zero_iff.mp (by omega)
      exact List.filter_eq_nil_iff.mp hnone _ hg (Entry.isFor_claim.mpr rfl)
    next hk =>
      have howner := listsSound.owner ⟨hlist, hretired⟩ hg
      cases e with
      | device d => cases hfor
      | claim g' rs' =>
        have howner' := listsSound.owner ⟨hlist, hretired⟩ (slot := slot) (g := g') (rs := rs') (by rw [hhead]; simp)
        rw [Entry.isFor_claim.mp hfor, howner] at howner'
        exact hk (Option.some.inj howner')
  · rw [Table.get_set]
    split
    next hk =>
      rw [hk, hhead] at hrs
      rcases List.mem_cons.mp hrs with rfl | hrest
      · exact absurd (ClaimTable.mem_fetched.mpr ⟨Entry.isFor_claim.mpr rfl, b, why, hstate⟩) hj
      · exact hrest
    next => exact hrs

/-! ## OPEN -/

theorem SessionTable.openSlot_recs (st : SessionTable) (slot k : Slot) (p : PortId) (q : OpenParams) :
    (st.openSlot slot p q).recs.get k = if k = slot then
      ⟨(st.recs.get slot).gen + 1, .opened ⟨p, q.role, q.tag, q.interval, q.interval⟩⟩ else st.recs.get k := by
  rw [SessionTable.openSlot, Table.get_modify]

theorem SessionTable.openSlot_info? (st : SessionTable) (slot k : Slot) (p : PortId) (q : OpenParams) :
    (st.openSlot slot p q).info? k
      = if k = slot then some ⟨p, q.role, q.tag, q.interval, q.interval⟩ else st.info? k := by
  rw [SessionTable.info?, SessionTable.openSlot_recs]
  split <;> rfl

/-- R55: the slot that OPEN takes is CLOSED or LAPSED. -/
theorem SessionTable.slotToTake_not_open {st : SessionTable} (h : st.lapsesListed) {slot : Slot}
    (hs : st.slotToTake = some slot) : st.isOpen slot = false := by
  unfold SessionTable.slotToTake at hs
  split at hs
  next slot' hclosed =>
    cases hs
    have hstate := List.find?_some hclosed
    rw [SessionTable.isOpen, SessionTable.info?_of_state (beq_iff_eq.mp hstate)]
    rfl
  next =>
    have hstate := (h.2 slot).mp (List.mem_of_mem_head? hs)
    rw [SessionTable.isOpen, SessionTable.info?_of_state hstate]
    rfl

theorem SessionTable.tagHolder_eq_none {st : SessionTable} {p : PortId} {tag : BitVec 16} (h : st.tagHolder p tag = none)
    {k : Slot} {i : SessionInfo} (hi : st.info? k = some i) : ¬ (i.port = p ∧ i.tag = tag) := by
  simpa [hi] using List.find?_eq_none.mp h k (List.mem_finRange k)

theorem SessionTable.maintenanceHeld_iff {st : SessionTable} :
    st.maintenanceHeld = true ↔ ∃ k, ∃ i ∈ st.info? k, i.role = .maintenance := by
  simp [SessionTable.maintenanceHeld, Option.any_eq_true]

theorem SessionTable.openSlot_soundFrom {st : SessionTable} (h : st.soundFrom 1) {slot : Slot} {p : PortId}
    {q : OpenParams} (htag : st.tagHolder p q.tag = none) (hrole : ¬ (q.role = .maintenance ∧ st.maintenanceHeld = true))
    (hlow : 10 ≤ q.interval) (hhigh : q.interval ≤ 65535) : (st.openSlot slot p q).soundFrom 1 := by
  obtain ⟨hone, htags, ⟨hnodup, hmem⟩, hcounts⟩ := h
  refine ⟨fun a b ⟨i, hi, hir⟩ ⟨j, hj, hjr⟩ => ?_, fun a b i hi j hj hport htag' => ?_, ⟨hnodup.erase _, fun k => ?_⟩,
    fun k i hi => ?_⟩
  · rw [Option.mem_def, st.openSlot_info?] at hi hj
    split at hi <;> split at hj
    next ha hb => exact ha.trans hb.symm
    next ha hb => cases hi; exact absurd ⟨hir, SessionTable.maintenanceHeld_iff.mpr ⟨b, j, hj, hjr⟩⟩ hrole
    next ha hb => cases hj; exact absurd ⟨hjr, SessionTable.maintenanceHeld_iff.mpr ⟨a, i, hi, hir⟩⟩ hrole
    next ha hb => exact hone a b ⟨i, hi, hir⟩ ⟨j, hj, hjr⟩
  · rw [Option.mem_def, st.openSlot_info?] at hi hj
    split at hi <;> split at hj
    next ha hb => exact ha.trans hb.symm
    next ha hb => cases hi; exact absurd ⟨hport.symm, htag'.symm⟩ (SessionTable.tagHolder_eq_none htag hj)
    next ha hb => cases hj; exact absurd ⟨hport, htag'⟩ (SessionTable.tagHolder_eq_none htag hi)
    next ha hb => exact htags a b i hi j hj hport htag'
  · rw [st.openSlot_recs, SessionTable.openSlot, hnodup.mem_erase_iff, hmem]
    by_cases hk : k = slot <;> simp [hk]
  · rw [Option.mem_def, st.openSlot_info?] at hi
    split at hi
    · cases hi
      exact ⟨hlow, hhigh, Nat.le_trans (by decide) hlow, le_rfl⟩
    · exact hcounts k i hi

theorem listSound_deviceNotices (t : ClaimTable) (slot : Slot) (ks : List DeviceKind) {l : List Entry}
    (h : listSound t slot l) : listSound t slot (ks.foldl (fun l k => addDevice k l) l) := by
  induction ks generalizing l with
  | nil => exact h
  | cons k ks ih => exact ih (h.addDevice k)

/-- R55, R56, R65. -/
theorem State.rulesHold.openSession (h : s.rulesHold 1 lists) {slot : Slot} {p : PortId} {q : OpenParams}
    (hslot : s.sessions.slotToTake = some slot) (htag : s.sessions.tagHolder p q.tag = none)
    (hrole : ¬ (q.role = .maintenance ∧ s.sessions.maintenanceHeld = true)) (hlow : 10 ≤ q.interval)
    (hhigh : q.interval ≤ 65535) : (s.openSession slot p q).rulesHold 1 lists := by
  have hnone := h.ownerSlot_ne (SessionTable.slotToTake_not_open h.1.2.2.1 hslot)
  have hownerNe : ∀ i id, s.claims.ownerOf i = some id → id.slot ≠ slot := fun i id hi hs =>
    hnone i ((s.claims.ownerSlot_eq i).trans ((congrArg (Option.map SessionId.slot) hi).trans (congrArg some hs)))
  have hopen : ∀ k, k ≠ slot → (s.sessions.openSlot slot p q).isOpen k = s.sessions.isOpen k := fun k hk => by
    rw [SessionTable.isOpen, s.sessions.openSlot_info?, if_neg hk]
    rfl
  have hid : ∀ k, k ≠ slot → (s.sessions.openSlot slot p q).idOf k = s.sessions.idOf k := fun k hk =>
    SessionTable.idOf_congr (by rw [s.sessions.openSlot_recs, if_neg hk])
  obtain ⟨hsound, howners, hcount, hempty, hlists⟩ := h
  refine ⟨SessionTable.openSlot_soundFrom hsound htag hrole hlow hhigh, fun i id hi => ?_, fun k => ?_, fun k hk => ?_, fun hl => ?_⟩
  · have hne := hownerNe i id hi
    exact ⟨(hopen _ hne).trans (howners i id hi).1, (hid _ hne).trans (howners i id hi).2⟩
  · by_cases hk : k = slot
    · have hzero : s.claims.owned ((s.sessions.openSlot slot p q).idOf k) = [] :=
        List.eq_nil_iff_forall_not_mem.mpr fun i hi => hownerNe i _ (ClaimTable.mem_owned.mp hi) hk
      exact (congrArg List.length hzero).trans_le (Nat.zero_le _)
    · exact (congrArg s.claims.ownedCount (hid k hk)).trans_le (hcount k)
  · have hks : k ≠ slot := by
      rintro rfl
      rw [State.openSession, SessionTable.isOpen, s.sessions.openSlot_info?, if_pos rfl] at hk
      cases hk
    rw [State.openSession, Table.get_set_ne _ _ hks]
    exact hempty k ((hopen k hks).symm.trans hk)
  · obtain ⟨hlist, hretired⟩ := hlists hl
    refine ⟨fun k => ?_, fun i b why hi => ?_⟩
    · rw [State.openSession, Table.get_set]
      split
      next hk => exact listSound_deviceNotices _ _ _ (listSound_nil _ _)
      next => exact hlist k
    · have hne : b.owner.slot ≠ slot := hownerNe i b.owner (ClaimTable.ownerOf_of_body? (by
        rw [ClaimTable.body?, show (s.claims.recs.get i).state = _ from hi]; rfl))
      rw [State.openSession, Table.get_set_ne _ _ hne]
      exact hretired i b why hi

end Rules
end Sys2Proof.Machine
end

section
/-! PROOFS. Every command keeps the rules of sessions, owners and attention lists. -/

-- The whole text compiles close to the check's memory limit, so this part starts no threads of its own.
set_option Elab.async false

namespace Sys2Proof.Machine

section Rules
variable {s t : State} {lists : Prop}

/-! ## Requests -/

/-- R163: a request leaves the rules as its owner does, for a requester that is OPEN. -/
theorem State.rulesHold.serve {α : Type} (h : s.rulesHold 1 lists) (p : PortId) (code : RequestCode)
    (decode : List Byte → Except Result α) (maintenanceOnly : Bool) {owner : State → Requester → α → State × Reply}
    (howner : ∀ (u : State) slot info q, u.rulesHold 1 lists → u.sessions.info? slot = some info →
      (owner u ⟨slot, info⟩ q).1.rulesHold 1 lists) :
    (s.serve p code decode maintenanceOnly owner).rulesHold 1 lists := by
  rcases s.serve_cases p code decode maintenanceOnly owner with hs | ⟨r, st, why, -, hc, hs⟩ | ⟨r, slot, info, q, ha, -, -, hs⟩
  · rw [hs]; exact h
  · rw [hs]; exact h.checked hc
  · rw [hs]
    refine howner _ slot _ q (h.checked (.inr (.inr ⟨slot, info, ha.2.2.1, rfl⟩))) ?_
    rw [SessionTable.info?_eq_some, SessionTable.reload_recs _ slot slot info ha.2.2.1, if_pos rfl]

theorem ownOpen_rulesHold (h : s.rulesHold 1 lists) (p : PortId) {r : List Byte} {q : OpenParams} (hd : decodeOpen r = .ok q) :
    (ownOpen p s q).1.rulesHold 1 lists := by
  obtain ⟨-, -, hinterval, hlow⟩ := decodeOpen_ok hd
  have hhigh : q.interval ≤ 65535 := by have := octets_lt r 6; omega
  unfold ownOpen
  split
  · exact h
  next htag =>
    split
    · exact h
    next hrole =>
      split
      · exact h
      next slot hslot => exact h.openSession hslot htag hrole hlow hhigh

theorem State.rulesHold.serveOpen (h : s.rulesHold 1 lists) (p : PortId) :
    (s.serveOpen p (ownOpen p)).rulesHold 1 lists := by
  unfold State.serveOpen
  split
  · exact h
  next r hr =>
    split
    · exact h
    next q hd => exact ownOpen_rulesHold h p hd

theorem SessionTable.isOpen_of_info? {st : SessionTable} {slot : Slot} {info : SessionInfo}
    (hi : st.info? slot = some info) : st.isOpen slot = true := SessionTable.isOpen_iff.mpr ⟨info, hi⟩

theorem ownClaim_rulesHold (h : s.rulesHold 1 lists) {slot : Slot} {info : SessionInfo}
    (hi : s.sessions.info? slot = some info) (q : ClaimParams) : (ownClaim s ⟨slot, info⟩ q).1.rulesHold 1 lists := by
  unfold ownClaim
  split
  · exact h
  next hdevice =>
    split
    · exact h
    · split
      · exact h
      next i hfree =>
        exact h.grant (ClaimTable.lowestFree_isFree hfree) (SessionTable.isOpen_of_info? hi) rfl
          (claimDeviceRefusal_room hdevice)

theorem ownSet_rulesHold (h : s.rulesHold 1 lists) (who : Requester) (q : SetParams) :
    (ownSet s who q).1.rulesHold 1 lists := by
  unfold ownSet
  split
  · exact h
  next i b hl =>
    split
    · exact h
    · exact h.storeAndReport (ClaimTable.liveFor_eq_ok hl).1 q.pairs

theorem ownSetIf_rulesHold (h : s.rulesHold 1 lists) (who : Requester) (q : SetIfParams) :
    (ownSetIf s who q).1.rulesHold 1 lists := by
  unfold ownSetIf
  split
  · exact h
  next i b hl =>
    split
    · exact h
    · split
      · exact h.storeAndReport (ClaimTable.liveFor_eq_ok hl).1 _
      · exact h

theorem ownRenew_rulesHold (h : s.rulesHold 1 lists) (who : Requester) (q : RenewParams) :
    (ownRenew s who q).1.rulesHold 1 lists := by
  unfold ownRenew
  split
  · exact h
  next i b hl =>
    split
    · exact h
    · exact h.rewrite (ClaimTable.liveFor_eq_ok hl).1 rfl

theorem ownRelease_rulesHold (h : s.rulesHold 1 lists) (who : Requester) (handle : WireHandle) :
    (ownRelease s who handle).1.rulesHold 1 lists := by
  unfold ownRelease
  split
  · exact h
  next i b ho => exact h.releaseRecord (ClaimTable.ownedFor_eq_ok ho).1

theorem SessionTable.openNamed_eq_some {st : SessionTable} {handle : WireHandle} {slot : Slot} {info : SessionInfo} :
    st.openNamed handle = some (slot, info) ↔ st.named handle = some slot ∧ st.info? slot = some info := by
  unfold SessionTable.openNamed
  constructor
  · intro hn
    split at hn
    · cases hn
    next slot' hs =>
      split at hn <;> cases hn
      next hi => exact ⟨hs, hi⟩
  · rintro ⟨hs, hi⟩
    simp [hs, hi]

theorem ownTransfer_rulesHold (h : s.rulesHold 1 lists) (who : Requester) (q : TransferParams) :
    (ownTransfer s who q).1.rulesHold 1 lists := by
  unfold ownTransfer
  split
  · exact h
  next i b hl =>
    obtain ⟨hlive, howner⟩ := ClaimTable.liveFor_eq_ok hl
    split
    · exact h
    · split
      · exact h
      next slot info hn =>
        split
        · exact h
        next hslot =>
          split
          · exact h
          next hroom =>
            split
            · exact h
            · refine h.transferRecord hlive
                (SessionTable.isOpen_of_info? (SessionTable.openNamed_eq_some.mp hn).2) ?_ (by omega)
              rw [howner rfl]
              exact hslot

theorem ownRevoke_rulesHold (h : s.rulesHold 1 lists) (who : Requester) (handle : WireHandle) :
    (ownRevoke s who handle).1.rulesHold 1 lists := by
  unfold ownRevoke
  split
  · exact h
  next i b hl => exact h.retireOne i .revoked

theorem ownFetch_rulesHold (h : s.rulesHold 1 lists) (who : Requester) (q : Unit) :
    (ownFetch s who q).1.rulesHold 1 lists := by
  unfold ownFetch
  split
  · exact h
  next e rest hhead => exact h.fetch hhead

theorem State.rulesHold.clearFault (h : s.rulesHold 1 lists) (c : Chan) : (s.clearFault c).rulesHold 1 lists := by
  have hcleared : ({ s with monitor := s.monitor.clearMisses c }.changeChannel c
      (Channel.clearFault · s.outputs.quiesced)).rulesHold 1 lists := h.of_same (by simp) (by simp) (by simp)
  exact (hcleared.takeFaultNotice c).notices _ _

theorem ownClearFault_rulesHold (h : s.rulesHold 1 lists) (who : Requester) (c : Chan) :
    (ownClearFault s who c).1.rulesHold 1 lists := by
  unfold ownClearFault
  split
  · exact h
  · split
    · exact h
    · exact h.clearFault c

theorem State.rulesHold.enterLocked (h : s.rulesHold 1 lists) : s.enterLocked.rulesHold 1 lists :=
  State.rulesHold.deviceNotice (s := { s with supervisor := _ }) h .timebase

theorem ownResume_rulesHold (h : s.rulesHold 1 lists) (who : Requester) (q : Unit) :
    (ownResume s who q).1.rulesHold 1 lists := by
  unfold ownResume
  split
  · exact h
  · exact h
  · split
    · exact h.enterLocked
    · exact h
  · split
    · exact h.enterLocked
    · exact h

theorem State.rulesHold.readDevice (h : s.rulesHold 1 lists) (p : PortId) (g : DeviceReading) (reads : List DeviceBlock) :
    (s.readDevice p g reads).rulesHold 1 lists := h.of_same (by simp) (by simp) (by simp)

theorem execQueryDevice_rulesHold (h : s.rulesHold 1 lists) {p : PortId} {reads : List DeviceBlock}
    (hx : execQueryDevice p s reads = .next t) : t.rulesHold 1 lists := by
  unfold execQueryDevice at hx
  split at hx
  · cases hx; exact h.readDevice p _ reads
  · have hserved := h.serve p .queryDevice decodeNone false (owner := fun u _ _ => (u, refuse .ok)) fun _ _ _ _ hu _ => hu
    unfold State.serve at hserved
    split at hx
    next hc => cases hx; exact h
    next u why hc => cases hx; rw [hc] at hserved; exact hserved
    next u who q hc =>
      cases hx
      rw [hc] at hserved
      exact State.rulesHold.readDevice (hserved.of_same (t := u) rfl rfl rfl) p _ reads

/-! ## Events -/

theorem State.rulesHold.completeCommit (h : s.rulesHold 1 lists) (cm : Commit) (written : List Byte) (order : ActivationOrder) :
    (s.completeCommit cm written order).rulesHold 1 lists := by
  unfold State.completeCommit
  split
  · exact State.rulesHold.deviceNotice (h.of_same (by simp) (by simp) (by simp)) .profile
  · exact State.rulesHold.maintenanceNotice (s := { s with store := _ }) h .profile

theorem State.rulesHold.completeLoad (h : s.rulesHold 1 lists) (choice : LoadChoice) :
    (s.completeLoad choice).rulesHold 1 lists := by
  have hstarted : ((({ s with store := s.store.loaded choice }).enableOutputs choice.profile).startMonitor
      choice.profile).rulesHold 1 lists := h.of_same (by simp) (by simp) (by simp)
  suffices hsupervised : (State.startSupervisor _ choice.profile).rulesHold 1 lists from
    hsupervised.of_same (t := s.completeLoad choice) rfl rfl rfl
  unfold State.startSupervisor
  dsimp only
  split
  · exact State.rulesHold.deviceNotice (s := { (State.startMonitor _ _) with supervisor := _ }) hstarted .timebase
  · exact hstarted

theorem State.rulesHold.internalPeriod (h : s.rulesHold 1 lists) : s.internalPeriod.rulesHold 1 lists := by
  have hdivided : (s.carrierPeriod.countDivider .internalPeriods).rulesHold 1 lists :=
    h.of_same (by simp) (by simp) (by simp)
  unfold State.internalPeriod
  split
  · exact h
  · unfold State.windowPeriod
    split
    · exact hdivided
    · exact hdivided.windowEnd

theorem attended_reset : attended resetSessions resetClaims (.replicate []) 1 lists := by
  have hinfo : ∀ k, resetSessions.info? k = none := fun k => by
    simp [SessionTable.info?, resetSessions, SessionState.info?]
  have howner : ∀ i, resetClaims.ownerOf i = none := fun i => by
    simp [ClaimTable.ownerOf, ClaimTable.body?, resetClaims, ClaimState.body?]
  refine ⟨⟨?_, ?_, ⟨List.nodup_nil, fun k => ?_⟩, ?_⟩, fun i id hi => ?_, fun k => ?_, fun k _ => ?_, fun _ => ⟨fun k => ?_,
    fun i b why hi => ?_⟩⟩
  · simp [SessionTable.oneMaintenance, hinfo]
  · simp [SessionTable.tagsDistinct, hinfo]
  · simp [resetSessions]
  · simp [hinfo]
  · rw [howner] at hi; cases hi
  · have hnone : resetClaims.owned (resetSessions.idOf k) = [] := List.eq_nil_iff_forall_not_mem.mpr fun i hi => by
      rw [ClaimTable.mem_owned, howner] at hi
      cases hi
    rw [ClaimTable.ownedCount, hnone]
    exact Nat.zero_le _
  · simp
  · simpa using listSound_nil resetClaims k
  · simp [resetClaims] at hi

/-- Every command keeps the rules of sessions, owners and lists. -/
theorem exec_rulesHold {i : Instr} (h : s.rulesHold 1 lists) (hx : exec i s = .next t) : t.rulesHold 1 lists := by
  cases i with
  | deviceReset reached flaws => cases hx; exact attended_reset
  | submit p x | collect p x | peek p x | clear p x | unknownFrame p x =>
    cases hx
    exact h.of_same (s.transact_sessions p _ x) (s.transact_claims p _ x) (s.transact_attention p _ x)
  | openSession p => cases hx; exact h.serveOpen p
  | closeSession p => cases hx; exact h.serve _ _ _ _ fun u slot info q hu hi => hu.endSession hi false
  | claim p => cases hx; exact h.serve _ _ _ _ fun u slot info q hu hi => ownClaim_rulesHold hu hi q
  | set p => cases hx; exact h.serve _ _ _ _ fun u slot info q hu _ => ownSet_rulesHold hu _ q
  | setIf p => cases hx; exact h.serve _ _ _ _ fun u slot info q hu _ => ownSetIf_rulesHold hu _ q
  | renew p => cases hx; exact h.serve _ _ _ _ fun u slot info q hu _ => ownRenew_rulesHold hu _ q
  | release p => cases hx; exact h.serve _ _ _ _ fun u slot info q hu _ => ownRelease_rulesHold hu _ q
  | transfer p => cases hx; exact h.serve _ _ _ _ fun u slot info q hu _ => ownTransfer_rulesHold hu _ q
  | revoke p => cases hx; exact h.serve _ _ _ _ fun u slot info q hu _ => ownRevoke_rulesHold hu _ q
  | fetch p => cases hx; exact h.serve _ _ _ _ fun u slot info q hu _ => ownFetch_rulesHold hu _ q
  | clearFault p => cases hx; exact h.serve _ _ _ _ fun u slot info q hu _ => ownClearFault_rulesHold hu _ q
  | resume p => cases hx; exact h.serve _ _ _ _ fun u slot info q hu _ => ownResume_rulesHold hu _ q
  | keepalive p | queryClaim p | queryChannel p | profileRead p | profileStage p | profileCommit p | profileDiscard p =>
    cases hx
    exact h.serve _ _ _ _ fun u slot info q hu _ => hu.of_same (by simp) (by simp) (by simp)
  | queryDevice p reads => exact execQueryDevice_rulesHold h hx
  | faultNotice c => cases hx; exact h.takeFaultNotice c
  | tick takers =>
    exact execTick_keeps (P := fun u => u.rulesHold 1 lists)
      (fun u hu => hu.of_same u.produceTick_sessions u.produceTick_claims u.produceTick_attention)
      (fun u b hu => hu.takeTick b) h hx
  | leaseExpiry => obtain rfl := Host.Outcome.next.inj hx; exact (h.takeTick _).retireMany _ _
  | sessionLapse => obtain rfl := Host.Outcome.next.inj hx; exact (h.takeTick _).weaken.lapseSessions
  | lapsedEntry =>
    obtain rfl := Host.Outcome.next.inj hx
    unfold State.lapseIfOut
    split
    · exact (h.takeTick _).enterLapsed
    · exact h.takeTick _
  | startUpLoadCompletion =>
    simp only [exec, execStartUpLoadCompletion] at hx
    split at hx <;> cases hx
    · exact h.completeLoad _
    · exact h
  | commitCompletion flaws order =>
    simp only [exec, execCommitCompletion] at hx
    split at hx <;> cases hx
    · exact h.completeCommit _ _ order
    · exact h
  | windowEnd =>
    simp only [exec, execWindowEnd] at hx
    split at hx <;> cases hx
    · exact h
    · exact h.windowEnd
  | quiescenFall =>
    simp only [exec, execQuiescenFall] at hx
    repeat' split at hx
    all_goals cases hx
    · exact h
    · exact h
    · exact State.rulesHold.deviceNotice (h.of_same (by simp) (by simp) (by simp)) .quiesce
  | quiescenRise =>
    simp only [exec, execQuiescenRise] at hx
    repeat' split at hx
    all_goals cases hx
    · exact h
    · exact h
    · exact State.rulesHold.deviceNotice (h.of_same (by simp) (by simp) (by simp)) .quiesce
  | responseProduced p | unknownRequest p | resetEnd | conversionCompletion _ | channelFault _ | topReport _
  | valueReport _ | refclkEdge =>
    simp only [exec, execResponseProduced, execUnknownRequest, execResetEnd, execConversionCompletion, execChannelFault,
      execTopReport, execValueReport, execRefclkEdge] at hx
    repeat' split at hx
    all_goals cases hx; exact h.of_same (by simp) (by simp) (by simp)

end Rules

/-- Settles O53: each operation on the sessions, the claim table and the lists keeps the rules over the three, with the
rules of the lists and without them. -/
theorem sessionRulesKept : Obligations.SessionRulesKept := by
  unfold Obligations.SessionRulesKept
  have hkept : ∀ (lists : Prop) (s t : State), s.rulesHold 1 lists → step s = .next t → t.rulesHold 1 lists :=
    fun lists s t h hstep => step_keeps (P := fun u => u.rulesHold 1 lists) (fun _ _ hu => hu)
      (fun _ _ _ hu hx => exec_rulesHold hu hx) (fun _ hu => hu.internalPeriod) h hstep
  exact ⟨fun s t h hstep => ownersInv_iff.mpr (hkept False s t (ownersInv_iff.mp h) hstep),
    fun s t h hstep => listsInv_iff.mpr (hkept True s t (listsInv_iff.mp h) hstep)⟩

end Sys2Proof.Machine
end

section
/-! PROOFS. The step and the queue, and what device reset leaves. -/

-- The whole text compiles close to the check's memory limit, so this part starts no threads of its own.
set_option Elab.async false

namespace Sys2Proof.Machine

/-! ## The step -/

/-- Settles O1, by the first branch of the step. -/
theorem stepRunsFrontCommand : Obligations.StepRunsFrontCommand := by
  unfold Obligations.StepRunsFrontCommand
  intro c rest s
  rfl

theorem step_of_due {s : State} {c : Instr} (hq : s.pending = []) (hd : s.dueEvent = some c) : step s = exec c s := by
  simp [step, hq, hd]

theorem step_of_idle {s : State} (hq : s.pending = []) (hd : s.dueEvent = none) : step s = .next s.internalPeriod := by
  simp [step, hq, hd]

theorem State.internalPeriod_of_held {s : State} (h : s.resetHeld = true) : s.internalPeriod = s := by
  simp [State.internalPeriod, h]

theorem State.internalPeriod_of_running {s : State} (h : s.resetHeld = false) :
    s.internalPeriod = (s.carrierPeriod.countDivider .internalPeriods).windowPeriod := by
  simp [State.internalPeriod, h]

theorem outPin_iff {s : State} {c : Chan} :
    outPin s c = true ↔ (s.outputs.chans.get c).outputState = .enabled
      ∧ s.outputs.carrier < (s.outputs.chans.get c).latched := by
  simp [outPin]

/-- R85: a carrier period goes on, or begins with each output held. -/
theorem State.carrierPeriod_outputs (s : State) :
    (s.outputs.carrier + 1 < 1023 → s.carrierPeriod.outputs.carrier = s.outputs.carrier + 1
        ∧ s.carrierPeriod.outputs.chans = s.outputs.chans)
      ∧ (1023 ≤ s.outputs.carrier + 1 → s.carrierPeriod.outputs.carrier = 0
        ∧ ∀ c, s.carrierPeriod.outputs.chans.get c
            = { s.outputs.chans.get c with latched := (s.outputs.chans.get c).output }) := by
  refine ⟨fun hrun => ?_, fun hend => ?_⟩
  · simp [State.carrierPeriod, Config.carrierPeriods, hrun]
  · simp [State.carrierPeriod, Config.carrierPeriods, Nat.not_lt.mpr hend]

theorem State.carrierPeriod_rest (s : State) : s.carrierPeriod = { s with outputs := { s.outputs with
    carrier := s.carrierPeriod.outputs.carrier, chans := s.carrierPeriod.outputs.chans } } := by
  unfold State.carrierPeriod
  split <;> rfl

/-- R118: an internal period that the divider does not count. -/
theorem State.countDivider_idle {s : State} (h : ¬ (s.supervisor.producing = true ∧ s.supervisor.source = .internalPeriods)) :
    s.countDivider .internalPeriods = s := if_neg h

/-- R118: an internal period that the divider counts. -/
theorem State.countDivider_counts {s : State}
    (h : s.supervisor.producing = true ∧ s.supervisor.source = .internalPeriods) :
    s.countDivider .internalPeriods =
      if s.supervisor.dividerCount + 1 ≥ s.supervisor.holdoverDivider then s.produceTick
      else { s with supervisor := { s.supervisor with dividerCount := s.supervisor.dividerCount + 1 } } := by
  rw [State.countDivider, if_pos h, Supervisor.division, h.2]

/-- Settles O2: the branches of the step on an empty queue, and one oscillator period in its three parts. -/
theorem stepOnEmptyQueue : Obligations.StepOnEmptyQueue := by
  unfold Obligations.StepOnEmptyQueue
  refine ⟨fun s c => outPin_iff, fun s hq => ⟨fun c hd => step_of_due hq hd, fun hd hheld => ?_, fun hd hrunning => ?_⟩⟩
  · rw [step_of_idle hq hd, State.internalPeriod_of_held hheld]
  · have hsup : s.carrierPeriod.supervisor = s.supervisor := s.carrierPeriod_supervisor
    have htransit : s.carrierPeriod.transit = s.transit := s.carrierPeriod_transit
    have hwindow : (s.carrierPeriod.countDivider .internalPeriods).supervisor.windowPos = s.supervisor.windowPos := by
      rw [State.countDivider_supervisor, hsup]
      unfold Supervisor.divided
      repeat' split
      all_goals rfl
    have hcarrier := s.carrierPeriod_outputs
    refine ⟨s.carrierPeriod, s.carrierPeriod.countDivider .internalPeriods,
      (s.carrierPeriod.countDivider .internalPeriods).windowPeriod, ?_, s.carrierPeriod_rest, hcarrier.1, hcarrier.2,
      ⟨fun hidle => ?_, fun hcounts hbelow => ?_, fun hcounts hreached => ?_⟩, fun hopen => ?_, fun hend => ?_⟩
    · rw [step_of_idle hq hd, State.internalPeriod_of_running hrunning]
    · exact State.countDivider_idle (hsup ▸ hidle)
    · rw [State.countDivider_counts (hsup ▸ hcounts), hsup, if_neg (by omega)]
    · rw [State.countDivider_counts (hsup ▸ hcounts), hsup, if_pos hreached, State.produceTick, hsup, htransit]
      rfl
    · rw [State.windowPeriod, hwindow]
      exact if_pos hopen
    · have hheld : (s.carrierPeriod.countDivider .internalPeriods).resetHeld = false := by simpa using hrunning
      rw [State.windowPeriod, hwindow, if_neg (by simpa [Config.windowPeriods] using hend)]
      exact if_neg (Bool.eq_false_iff.mp hheld)

/-! ## The queue -/

/-- No command leaves the queue otherwise than it was. -/
theorem exec_pending {i : Instr} {s t : State} (hx : exec i s = .next t) : t.pending = s.pending := by
  cases i with
  | submit _ _ | collect _ _ | peek _ _ | clear _ _ | unknownFrame _ _ | responseProduced _ | unknownRequest _
  | keepalive _ | queryClaim _ | queryChannel _ | queryDevice _ _ | profileRead _ =>
    rw [exec_linkChange rfl hx]
  | openSession p => cases hx; exact s.serveOpen_pending p
  | closeSession p | claim p | set p | setIf p | renew p | release p | transfer p | revoke p | fetch p | clearFault p
  | resume p | profileStage p | profileCommit p | profileDiscard p =>
    exact served_eq State.pending (fun _ _ => rfl) (fun _ _ _ => rfl) (fun u who q => by simp) hx
  | deviceReset _ _ => cases hx; rfl
  | faultNotice c => cases hx; exact s.takeFaultNotice_pending c
  | tick takers =>
    exact execTick_keeps (P := fun u => u.pending = s.pending) (fun u hu => hu)
      (fun u b hu => (u.takeTick_pending b).trans hu) rfl hx
  | leaseExpiry => obtain rfl := Host.Outcome.next.inj hx; rw [State.expire_pending, State.takeTick_pending]
  | sessionLapse => obtain rfl := Host.Outcome.next.inj hx; rw [State.lapseSessions_pending, State.takeTick_pending]
  | lapsedEntry => obtain rfl := Host.Outcome.next.inj hx; rw [State.lapseIfOut_pending, State.takeTick_pending]
  | resetEnd | startUpLoadCompletion | commitCompletion _ _ | windowEnd | conversionCompletion _ | channelFault _
  | topReport _ | valueReport _ | quiescenFall | quiescenRise | refclkEdge =>
    simp only [exec, execResetEnd, execStartUpLoadCompletion, execCommitCompletion, execWindowEnd,
      execConversionCompletion, execChannelFault, execTopReport, execValueReport, execQuiescenFall, execQuiescenRise,
      execRefclkEdge] at hx
    repeat' split at hx
    all_goals cases hx; simp

/-- Every command answers a next state: there is no fault and no refusal. -/
theorem exec_answers (i : Instr) (s : State) : ∃ t, exec i s = .next t := by
  cases i with
  | resetEnd | startUpLoadCompletion | commitCompletion _ _ | windowEnd | conversionCompletion _ | channelFault _
  | topReport _ | valueReport _ | quiescenFall | quiescenRise | refclkEdge | responseProduced _ | unknownRequest _
  | queryDevice _ _ | tick _ =>
    simp only [exec, execResetEnd, execStartUpLoadCompletion, execCommitCompletion, execWindowEnd,
      execConversionCompletion, execChannelFault, execTopReport, execValueReport, execQuiescenFall, execQuiescenRise,
      execRefclkEdge, execResponseProduced, execUnknownRequest, execQueryDevice, execTick]
    repeat' split
    all_goals exact ⟨_, rfl⟩
  | _ => exact ⟨_, rfl⟩

/-- Settles O3. -/
theorem commandsAnswerAndKeepQueue : Obligations.CommandsAnswerAndKeepQueue := by
  unfold Obligations.CommandsAnswerAndKeepQueue
  intro c s
  obtain ⟨t, hx⟩ := exec_answers c s
  exact ⟨t, hx, exec_pending hx⟩

/-! ## Device reset -/

/-- Settles O4, record by record. -/
theorem resetValues : Obligations.ResetValues := by
  unfold Obligations.ResetValues
  refine ⟨fun p => by cases p <;> exact ⟨rfl, rfl, rfl, rfl, rfl⟩, fun slot => by simp [State.reset, State.atReset, resetSessions],
    rfl, fun i => by simp [State.reset, State.atReset, resetClaims],
    fun c => by simp [State.reset, State.atReset, resetClaims], fun slot => by simp [State.reset, State.atReset],
    fun p => ?_, fun p bytes bits => sdoPin_undriven.mpr (.inl rfl), fun c => ?_, rfl, fun c => ?_, rfl, rfl,
    fun c => ?_, rfl, rfl, rfl, rfl, rfl, rfl, rfl⟩
  · simp [attnAsserted, State.reset, State.atReset]
  · simp [State.reset, State.atReset, resetOutputs, resetChannel, Config.maxValue]
  · simp [outPin, State.reset, State.atReset, resetOutputs, resetChannel]
  · simp [State.reset, State.atReset, resetMonitor, Config.defaultTolerance, Config.defaultMissLimit]

/-- R146: the copy that is not a commit's target stands through a device reset. -/
theorem ProfileStore.cutShort_copy {st : ProfileStore} {reached : WriteReached} {flaws : List Flaw} {copyId : CopyId}
    (h : ∀ cm ∈ st.commit, cm.target ≠ copyId) : (st.cutShort reached flaws).copy copyId = st.copy copyId := by
  unfold ProfileStore.cutShort
  split
  next cm hcm => have hne := h cm hcm
                 cases ht : cm.target <;> cases copyId <;> simp_all [ProfileStore.withCopy, ProfileStore.copy]
  next => rfl

/-- Settles O5. -/
theorem deviceResetReturnsEverything : Obligations.DeviceResetReturnsEverything := by
  unfold Obligations.DeviceResetReturnsEverything
  intro reached flaws s
  refine ⟨_, rfl, rfl, fun copyId hcopy => ?_⟩
  rw [← ProfileStore.cutShort_copy (reached := reached) (flaws := flaws) hcopy]
  cases copyId <;> rfl

/-- Settles O51: what each rule asks of the tables as device reset leaves them. -/
theorem resetMeetsEveryRule : Obligations.ResetMeetsEveryRule := by
  unfold Obligations.ResetMeetsEveryRule
  have hload : LoadInv State.reset := ⟨fun h => (by cases h), fun _ => ⟨rfl, rfl⟩⟩
  have hports : PortsInv State.reset := ⟨resetPort_sound false, resetPort_sound false, hload⟩
  have hsupervisor : SupervisorInv State.reset := supervisorInv_iff.mpr ⟨resetSupervisor_sound, hload⟩
  have hprofiles : ProfilesInv State.reset :=
    ⟨defaultProfile_sound, Profile.sound.inRange defaultProfile_sound, fun _ hn => (by cases hn), fun _ hn => (by cases hn)⟩
  have hdelivered : DeliveredInv State.reset := by
    refine deliveredInv_iff.mpr ⟨hports, deviceReset_holdsSettings, fun c => ?_, ?_, fun _ => rfl⟩ <;>
      simp [State.reset, State.atReset, resetOutputs, resetChannel, resetStore, resetMonitor]
  refine ⟨hports, ownersInv_iff.mpr attended_reset, resetClaims_stackSound, resetClaims_leasesSound,
    State.atReset_outputsInv _ _ _ _ _ _, ⟨fun _ => resetClaims_noneLive, fun _ => ⟨rfl, rfl, rfl⟩, hload⟩, hsupervisor,
    hprofiles, hdelivered, listsInv_iff.mpr attended_reset,
    countsInv_iff.mpr ⟨hsupervisor, hprofiles, resetSupervisor_ranged⟩, ⟨hprofiles, fun c => ?_⟩,
    targetsInv_iff.mpr ⟨hdelivered, fun c => ⟨fun _ => ?_, fun he => ?_⟩⟩⟩
  · simp [State.reset, State.atReset, resetMonitor, Config.defaultMissLimit]
  · simp [State.reset, State.atReset, resetOutputs, resetChannel]
  · simp [State.reset, State.atReset, resetOutputs, resetChannel] at he

end Sys2Proof.Machine
end

section
/-! PROOFS. The profile copies and the start-up load: a copy holds its profile (R132, R133), what a write cut short leaves
(R142, R146), the choice among the copies (R135) and the delivery of the one chosen (R136). -/

-- The whole text compiles close to the check's memory limit, so this part starts no threads of its own.
set_option Elab.async false

namespace Sys2Proof.Machine

/-! ## A copy holds its profile -/

theorem be16_value {n : Nat} (h : n ≤ 65535) :
    ((be16 n).getD 0 0#8).toNat * 256 + ((be16 n).getD 1 0#8).toNat = n := by
  simp [be16]
  omega

theorem be8_value {n : Nat} (h : n ≤ 255) : ((be8 n).getD 0 0#8).toNat = n := by
  simp [be8]
  omega

theorem copyImage_length (prof : Profile) : (copyImage prof).length = 542 := by
  rw [copyImage, List.length_append, Profile.content_length]
  rfl

theorem copyImage_channelWord (prof : Profile) (c : Chan) (k : Nat) (hk : k + 1 < 11) :
    wordAt (copyImage prof) (12 + 11 * c.val + k)
      = ((prof.chans.get c).bytes.getD k 0#8).toNat * 256 + ((prof.chans.get c).bytes.getD (k + 1) 0#8).toNat := by
  rw [wordAt, copyImage_channel prof c k (by omega), Nat.add_assoc _ k, copyImage_channel prof c (k + 1) hk]

theorem copyImage_globalWord (prof : Profile) (k : Nat) (hk : k + 1 < 12) :
    wordAt (copyImage prof) k = (prof.globalBytes.getD k 0#8).toNat * 256 + (prof.globalBytes.getD (k + 1) 0#8).toNat := by
  rw [wordAt, copyImage_global prof k (by omega), copyImage_global prof (k + 1) hk]

/-- R133: the fields of a channel read back from its eleven bytes. -/
theorem channelProfileAt_copyImage {prof : Profile} (h : prof.inRange = true) (c : Chan) :
    channelProfileAt (copyImage prof) (12 + 11 * c.val) = prof.chans.get c := by
  have hrest := (Profile.field_inRange h .rest c).2
  have hlow := (Profile.field_inRange h .low c).2
  have hhigh := (Profile.field_inRange h .high c).2
  have hrate := (Profile.field_inRange h .rate c).2
  have henable := (Profile.field_inRange h .enable c).2
  have htolerance := (Profile.field_inRange h .tolerance c).2
  have hmissLimit := (Profile.field_inRange h .missLimit c).2
  simp only [Profile.field, ProfileField.range] at hrest hlow hhigh hrate henable htolerance hmissLimit
  have hword : ∀ k v, k + 1 < 11 → v ≤ 65535 → (prof.chans.get c).bytes.getD k 0#8 = (be16 v).getD 0 0#8 →
      (prof.chans.get c).bytes.getD (k + 1) 0#8 = (be16 v).getD 1 0#8 →
      wordAt (copyImage prof) (12 + 11 * c.val + k) = v := by
    intro k v hk hv h0 h1
    rw [copyImage_channelWord prof c k hk, h0, h1, be16_value hv]
  have hbyte : ∀ k v, k < 11 → v ≤ 255 → (prof.chans.get c).bytes.getD k 0#8 = (be8 v).getD 0 0#8 →
      byteAt (copyImage prof) (12 + 11 * c.val + k) = v := by
    intro k v hk hv h0
    rw [copyImage_channel prof c k hk, h0, be8_value hv]
  rw [channelProfileAt, hword 2 _ (by omega) (by omega) rfl rfl, hword 4 _ (by omega) (by omega) rfl rfl,
    hword 6 _ (by omega) (by omega) rfl rfl, hbyte 8 _ (by omega) (by omega) rfl, hbyte 9 _ (by omega) (by omega) rfl,
    hbyte 10 _ (by omega) (by omega) rfl]
  have hfirst := hword 0 (prof.chans.get c).rest (by omega) (by omega) rfl rfl
  rw [Nat.add_zero] at hfirst
  rw [hfirst]

/-- R133: the generation reads back from its four bytes. -/
theorem longAt_copyImage (prof : Profile) : longAt (copyImage prof) 8 = prof.generation.toNat := by
  rw [longAt, copyImage_globalWord prof 8 (by omega), copyImage_globalWord prof 10 (by omega)]
  have hlt := prof.generation.isLt
  simp [Profile.globalBytes, be8, be16, be32]
  omega

/-- R133: every field reads back. -/
theorem profileOf_copyImage {prof : Profile} (h : prof.inRange = true) : profileOf (copyImage prof) = prof := by
  have hprescaler := (Profile.field_inRange h .prescaler 0).2
  have hdivider := (Profile.field_inRange h .holdoverDivider 0).2
  have hperiod := (Profile.field_inRange h .holdoverPeriod 0).2
  have hceiling0 := (Profile.field_inRange h .ceiling0 0).2
  have hceiling1 := (Profile.field_inRange h .ceiling1 0).2
  simp only [Profile.field, ProfileField.range] at hprescaler hdivider hperiod hceiling0 hceiling1
  have hchans : (Table.ofFn fun c : Chan => channelProfileAt (copyImage prof) (12 + 11 * c.val)) = prof.chans :=
    Table.ext_get fun c => by rw [Table.get_ofFn, channelProfileAt_copyImage h c]
  have hword : ∀ k v, k + 1 < 12 → v ≤ 65535 → prof.globalBytes.getD k 0#8 = (be16 v).getD 0 0#8 →
      prof.globalBytes.getD (k + 1) 0#8 = (be16 v).getD 1 0#8 → wordAt (copyImage prof) k = v := by
    intro k v hk hv h0 h1
    rw [copyImage_globalWord prof k hk, h0, h1, be16_value hv]
  have hbyte : ∀ k v, k < 12 → v ≤ 255 → prof.globalBytes.getD k 0#8 = (be8 v).getD 0 0#8 →
      byteAt (copyImage prof) k = v := by
    intro k v hk hv h0
    rw [copyImage_global prof k hk, h0, be8_value hv]
  rw [profileOf, hchans, longAt_copyImage, hword 0 _ (by omega) (by omega) rfl rfl,
    hword 2 _ (by omega) (by omega) rfl rfl, hword 4 _ (by omega) (by omega) rfl rfl, hbyte 6 _ (by omega) (by omega) rfl,
    hbyte 7 _ (by omega) (by omega) rfl, BitVec.ofNat_toNat, BitVec.setWidth_eq]

theorem copyImage_valid {prof : Profile} (h : prof.sound = true) : copyValid (copyImage prof) = true := by
  obtain ⟨hrange, hconsistent⟩ := (Profile.sound_iff prof).mp h
  exact copyValid_of_fields (by rwa [profileOf_copyImage hrange]) (by rwa [profileOf_copyImage hrange])

/-- Settles O7: the bytes of each field, of each channel and of the CRC read back. -/
theorem copyHoldsItsProfile : Obligations.CopyHoldsItsProfile := by
  unfold Obligations.CopyHoldsItsProfile
  intro prof h
  exact ⟨copyImage_length prof, copyImage_valid h, profileOf_copyImage ((Profile.sound_iff prof).mp h).1⟩

/-! ## The CRC-16 tells one changed byte -/

/-- The CRC's step by one bit loses nothing: the bit shifted out shows as bit 0, which the polynomial sets. -/
theorem crc16Bit_injective : Function.Injective crc16Bit := by
  intro c d h
  have hbit : ∀ e : BitVec 16, (crc16Bit e).getLsbD 0 = e.msb := by
    intro e
    unfold crc16Bit
    split <;> simp_all
  have hmsb : c.msb = d.msb := by rw [← hbit c, ← hbit d, h]
  have hshift : c <<< 1 = d <<< 1 := by
    unfold crc16Bit at h
    rw [hmsb] at h
    split at h
    · exact BitVec.xor_right_inj 0x1021#16 |>.mp (by rw [BitVec.xor_comm, h, BitVec.xor_comm])
    · exact h
  refine BitVec.eq_of_getLsbD_eq fun i hi => ?_
  by_cases hlast : i = 15
  · subst hlast
    rwa [BitVec.msb_eq_getLsbD_last, BitVec.msb_eq_getLsbD_last] at hmsb
  · have hnext := congrArg (·.getLsbD (i + 1)) hshift
    rw [BitVec.getLsbD_eq_getElem hi, BitVec.getLsbD_eq_getElem hi]
    simpa [BitVec.getLsbD_shiftLeft, show i + 1 < 16 by omega] using hnext

/-- The eight steps of one byte, from the state with the byte joined. -/
theorem crc16Byte_eq_iff {c d : BitVec 16} {a b : Byte} : crc16Byte c a = crc16Byte d b
    ↔ c ^^^ (a.zeroExtend 16 <<< 8) = d ^^^ (b.zeroExtend 16 <<< 8) := by
  simp only [crc16Byte, crc16Bit_injective.eq_iff]

theorem crc16_foldl_injective (l : List Byte) : Function.Injective fun c => l.foldl crc16Byte c := by
  induction l with
  | nil => exact fun _ _ h => h
  | cons a l ih => exact fun c d h => (BitVec.xor_left_inj _).mp (crc16Byte_eq_iff.mp (ih h))

theorem byte_shift_injective {a b : Byte} (h : a.zeroExtend 16 <<< 8 = b.zeroExtend 16 <<< 8) : a = b := by
  refine BitVec.eq_of_getLsbD_eq fun i hi => ?_
  have hbit := congrArg (·.getLsbD (i + 8)) h
  simpa [BitVec.getLsbD_shiftLeft, BitVec.getLsbD_setWidth, show i + 8 < 16 by omega, show i < 16 by omega] using hbit

theorem crc16_foldl_set {l : List Byte} {i : Nat} {b : Byte} {c : BitVec 16}
    (h : (l.set i b).foldl crc16Byte c = l.foldl crc16Byte c) : l.set i b = l := by
  induction l generalizing i c with
  | nil => rfl
  | cons a l ih =>
    cases i with
    | zero =>
      have hstate := crc16_foldl_injective l h
      rw [crc16Byte_eq_iff, BitVec.xor_right_inj] at hstate
      rw [List.set_cons_zero, byte_shift_injective hstate]
    | succ i => rw [List.set_cons_succ, ih h]

/-- R133: with one byte changed, the CRC is another. -/
theorem crc16_set {l : List Byte} {i : Nat} {b : Byte} (h : crc16 (l.set i b) = crc16 l) : l.set i b = l :=
  crc16_foldl_set h

/-! ## What a write cut short leaves -/

/-- Bytes set one after the other leave a byte that none of them names. -/
theorem foldl_set_other {α : Type} {at_ : α → Nat} {byte : α → Byte} {xs : List α} {l : List Byte} {j : Nat}
    (h : ∀ x ∈ xs, at_ x ≠ j) : (xs.foldl (fun l x => l.set (at_ x) (byte x)) l)[j]? = l[j]? := by
  induction xs generalizing l with
  | nil => rfl
  | cons x xs ih =>
    rw [List.foldl_cons, ih fun y hy => h y (List.mem_cons_of_mem _ hy), List.getElem?_set_ne (h x List.mem_cons_self)]

theorem foldl_set_unnamed {source : Nat → Byte} {is : List Nat} {l : List Byte} {j : Nat} (h : j ∉ is) :
    (is.foldl (fun l i => l.set i (source i)) l)[j]? = l[j]? :=
  foldl_set_other (at_ := fun i => i) (byte := source) fun _ hi hij => h (hij ▸ hi)

theorem foldl_set_length {source : Nat → Byte} (is : List Nat) (l : List Byte) :
    (is.foldl (fun l i => l.set i (source i)) l).length = l.length := by
  induction is generalizing l with
  | nil => rfl
  | cons i is ih => rw [List.foldl_cons, ih, List.length_set]

/-- Bytes set each to its own byte of one source: one named holds its own. -/
theorem foldl_set_named {source : Nat → Byte} {is : List Nat} {l : List Byte} {j : Nat} (hj : j ∈ is) (hl : j < l.length) :
    (is.foldl (fun l i => l.set i (source i)) l)[j]? = some (source j) := by
  induction is generalizing l with
  | nil => cases hj
  | cons i is ih =>
    by_cases hmem : j ∈ is
    · exact ih hmem (by simpa using hl)
    · obtain rfl : j = i := by simpa [hmem] using hj
      rw [List.foldl_cons, foldl_set_unnamed hmem, List.getElem?_set_self hl]

theorem erasedCopy_length (older : List Byte) : (erasedCopy older).length = older.length := by simp [erasedCopy]

theorem erasedCopy_getElem? {older : List Byte} {j : Nat} (hj : j < older.length) : (erasedCopy older)[j]? = some 0xFF#8 := by
  simp [erasedCopy, hj, Config.erasedByte]

/-- R142: of the first 540 bytes written, none is a byte of the prescaler. -/
theorem two_le_of_mem_take {n j : Nat} (hn : n ≤ 540) (hj : j ∈ writeOrder.take n) : 2 ≤ j := by
  rw [writeOrder, List.take_append_of_le_length (by simpa using hn)] at hj
  exact (List.mem_range'_1.mp (List.mem_of_mem_take hj)).1

theorem mem_writeOrder {j : Nat} : j ∈ writeOrder ↔ j < 542 := by
  simp only [writeOrder, List.mem_append, List.mem_range'_1, List.mem_cons, List.not_mem_nil, or_false]
  omega

/-- R142: before the last byte only byte 1 is unwritten. -/
theorem mem_take_541 {j : Nat} : j ∈ writeOrder.take 541 ↔ j < 542 ∧ j ≠ 1 := by
  have htake : writeOrder.take 541 = List.range' 2 540 ++ [0] := by
    rw [writeOrder, List.take_append, List.take_of_length_le (by simp)]
    simp
  simp only [htake, List.mem_append, List.mem_range'_1, List.mem_cons, List.not_mem_nil, or_false]
  omega

/-- R132, R135: a copy whose prescaler is unwritten is invalid. -/
theorem copyValid_of_unwritten {r : List Byte} (h0 : r[0]? = some 0xFF#8) (h1 : r[1]? = some 0xFF#8) :
    copyValid r = false := by
  refine Bool.eq_false_iff.mpr fun hv => ?_
  simp only [copyValid, Bool.and_eq_true] at hv
  have hrange := (Profile.field_inRange hv.1.1.2 .prescaler 0).2
  have hword : wordAt r 0 = 65535 := by simp [wordAt, byteAt, h0, h1]
  simp only [Profile.field, ProfileField.range, profileOf, hword] at hrange
  omega

section Torn
variable {older image : List Byte} {n : Nat}

theorem partWritten_length (older image : List Byte) (n : Nat) : (partWritten older image n).length = older.length := by
  rw [partWritten, foldl_set_length, erasedCopy_length]

theorem partWritten_unwritten (hlen : older.length = 542) {j : Nat} (hj : j < 542) (hn : j ∉ writeOrder.take n) :
    (partWritten older image n)[j]? = some 0xFF#8 := by
  rw [partWritten, foldl_set_unnamed hn, erasedCopy_getElem? (hlen ▸ hj)]

theorem partWritten_written (hlen : older.length = 542) (himage : image.length = 542) {j : Nat} (hn : j ∈ writeOrder.take n) :
    (partWritten older image n)[j]? = image[j]? := by
  have hj : j < 542 := mem_writeOrder.mp (List.mem_of_mem_take hn)
  rw [partWritten, foldl_set_named (source := fun i => image.getD i Config.erasedByte) hn
    (by rw [erasedCopy_length, hlen]; exact hj), List.getElem?_eq_getElem (himage ▸ hj)]
  simp [himage, hj]

/-- R146: the write with every byte taken, and the flaws of the bytes written, both leave an unwritten byte at 0xFF. -/
theorem tornCopy_unwritten (hlen : older.length = 542) (hn : n < 542) (flaws : List Flaw) {j : Nat} (hj : j < 542)
    (hmem : j ∉ writeOrder.take n) : (tornCopy older image flaws (.writing n))[j]? = some 0xFF#8 := by
  have hplain := partWritten_unwritten (image := image) hlen hj hmem
  simp only [tornCopy, if_pos (show n < Config.copyBytes from hn), leftBy]
  split
  · exact hplain
  · rw [applyFlaws, foldl_set_other (at_ := Flaw.index) (byte := Flaw.reads) fun f hf hfj => ?_]
    · exact hplain
    · rw [List.mem_filter, decide_eq_true_iff, hfj] at hf
      exact hmem hf.2

/-- R146: with the last byte to be written, the copy is the image but for byte 1. -/
theorem partWritten_541 (hlen : older.length = 542) (himage : image.length = 542) :
    partWritten older image 541 = image.set 1 0xFF#8 := by
  refine List.ext_getElem? fun j => ?_
  by_cases hj : j < 542
  · by_cases hone : j = 1
    · subst hone
      rw [partWritten_unwritten hlen hj fun h => (mem_take_541.mp h).2 rfl,
        List.getElem?_set_self (by rw [himage]; exact hj)]
    · rw [partWritten_written hlen himage (mem_take_541.mpr ⟨hj, hone⟩), List.getElem?_set_ne (Ne.symm hone)]
  · rw [List.getElem?_eq_none (by rw [partWritten_length, hlen]; omega),
      List.getElem?_eq_none (by rw [List.length_set, himage]; omega)]

theorem partWritten_all (hlen : older.length = 542) (himage : image.length = 542) :
    partWritten older image 542 = image := by
  have htake : writeOrder.take 542 = writeOrder := List.take_of_length_le (by simp [writeOrder])
  refine List.ext_getElem? fun j => ?_
  by_cases hj : j < 542
  · exact partWritten_written hlen himage (by rw [htake]; exact mem_writeOrder.mpr hj)
  · rw [List.getElem?_eq_none (by rw [partWritten_length, hlen]; omega), List.getElem?_eq_none (by omega)]

end Torn

/-- R133: a valid copy carries the CRC of its content. -/
theorem crc16_of_copyValid {r : List Byte} (h : copyValid r = true) : (crc16 (r.take 540)).toNat = wordAt r 540 := by
  simp only [copyValid, Bool.and_eq_true, decide_eq_true_iff] at h
  exact h.2

/-- R142, R146: with only byte 1 unwritten, the CRC tells unless it reads as the image there. -/
theorem copyValid_set_one {prof : Profile} (h : copyValid ((copyImage prof).set 1 0xFF#8) = true) :
    (copyImage prof).set 1 0xFF#8 = copyImage prof := by
  have hcrc := crc16_of_copyValid h
  have hword : wordAt ((copyImage prof).set 1 0xFF#8) 540 = wordAt (copyImage prof) 540 := by
    simp [wordAt, byteAt, List.getElem?_set_ne]
  rw [hword, copyImage_crc, List.take_set, copyImage_take] at hcrc
  have hcontent := crc16_set (BitVec.eq_of_toNat_eq hcrc)
  rw [copyImage, List.set_append_left _ _ (by rw [Profile.content_length]; omega), hcontent]

/-- R146: before the end of the write the target is invalid, or holds the image. -/
theorem partWritten_spec {prof : Profile} {older : List Byte} {n : Nat} (hlen : older.length = 542) (hn : n < 542) :
    copyValid (partWritten older (copyImage prof) n) = false
      ∨ partWritten older (copyImage prof) n = copyImage prof := by
  by_cases hlast : n = 541
  · subst hlast
    rw [partWritten_541 hlen (copyImage_length prof)]
    by_cases hv : copyValid ((copyImage prof).set 1 0xFF#8) = true
    · exact .inr (copyValid_set_one hv)
    · exact .inl (Bool.eq_false_iff.mpr hv)
  · refine .inl (copyValid_of_unwritten ?_ ?_) <;>
      exact partWritten_unwritten hlen (by omega) fun hmem =>
        absurd (two_le_of_mem_take (n := n) (by omega) hmem) (by omega)

/-- R146: the target of the commit a device reset cuts short. -/
theorem ProfileStore.cutShort_target {st : ProfileStore} {cm : Commit} (h : st.commit = some cm) (reached : WriteReached)
    (flaws : List Flaw) : (st.cutShort reached flaws).copy cm.target
      = tornCopy (st.copy cm.target) (copyImage cm.image) flaws reached := by
  unfold ProfileStore.cutShort
  rw [h]
  cases ht : cm.target <;> simp [ProfileStore.withCopy, ProfileStore.copy, ht]

theorem resetStore_copy (st : ProfileStore) (copyId : CopyId) :
    (resetStore st.copyA st.copyB).copy copyId = st.copy copyId := by cases copyId <;> rfl

/-- R142: an erase that has reached every byte, and one that has not begun. -/
theorem erasing_whole {older : List Byte} {n : Nat} (h : older.length = n) (image : List Byte) :
    tornCopy older image [] (.erasing (List.replicate n false)) = List.replicate n 0xFF#8
      ∧ tornCopy older image [] (.erasing (List.replicate n true)) = older := by
  have herased : List.zipWith (fun keeps b => if keeps then b else Config.erasedByte) (List.replicate n false) older
      = erasedCopy older := by
    refine List.ext_getElem (by simp [h, erasedCopy]) fun j h1 h2 => ?_
    simp [erasedCopy]
  have hkept : List.zipWith (fun keeps b => if keeps then b else Config.erasedByte) (List.replicate n true) older
      = older := by
    refine List.ext_getElem (by simp [h]) fun j h1 h2 => ?_
    simp
  constructor
  · rw [tornCopy, herased, applyFlaws, List.foldl_nil, leftBy, erasedCopy_invalid]
    simp [erasedCopy, h, Config.erasedByte]
  · rw [tornCopy, hkept, applyFlaws, List.foldl_nil, leftBy, bne_self_eq_false, Bool.and_false]
    rfl

/-- Settles O6: an unwritten prescaler reads out of range, and with one byte of it unwritten the CRC tells. -/
theorem cutCommitLeavesTarget : Obligations.CutCommitLeavesTarget := by
  unfold Obligations.CutCommitLeavesTarget
  intro s cm hcm hsound hlen
  have htarget : ∀ reached flaws, ∃ t, exec (.deviceReset reached flaws) s = .next t
      ∧ t.store.copy cm.target = tornCopy (s.store.copy cm.target) (copyImage cm.image) flaws reached :=
    fun reached flaws => ⟨_, rfl, (resetStore_copy _ _).trans (ProfileStore.cutShort_target hcm reached flaws)⟩
  have hwhole := erasing_whole hlen (copyImage cm.image)
  have hvalid := copyImage_valid hsound
  refine ⟨fun kept flaws => ?_, ?_, ?_, fun n flaws hn => ?_⟩
  · obtain ⟨t, hx, ht⟩ := htarget (.erasing kept) flaws
    exact ⟨t, hx, ht ▸ tornCopy_erasing _ _ flaws kept⟩
  · obtain ⟨t, hx, ht⟩ := htarget (.erasing (List.replicate 542 false)) []
    rw [hwhole.1] at ht
    refine ⟨t, hx, ht, ?_⟩
    rw [ht]
    exact copyValid_of_unwritten (List.getElem?_replicate_of_lt (by decide)) (List.getElem?_replicate_of_lt (by decide))
  · obtain ⟨t, hx, ht⟩ := htarget (.erasing (List.replicate 542 true)) []
    exact ⟨t, hx, ht.trans hwhole.2⟩
  · obtain ⟨t, hx, ht⟩ := htarget (.writing n) flaws
    have hall : n = 542 → flaws = [] → t.store.copy cm.target = copyImage cm.image := by
      rintro rfl rfl
      rw [ht, tornCopy_writing_plain, partWritten_all hlen (copyImage_length _)]
    refine ⟨t, hx, fun hunwritten => ?_, fun hearly => ⟨fun hv => ?_, fun he => he ▸ hvalid⟩, hall⟩
    · have hnot : ∀ j, j < 2 → j ∉ writeOrder.take n := fun j hj hmem =>
        absurd (two_le_of_mem_take hunwritten hmem) (by omega)
      rw [ht]
      exact copyValid_of_unwritten (tornCopy_unwritten hlen (by omega) flaws (by omega) (hnot 0 (by omega)))
        (tornCopy_unwritten hlen (by omega) flaws (by omega) (hnot 1 (by omega)))
    · by_cases hend : n = 542
      · exact hall hend (hearly.resolve_left (by omega))
      · have hn' : n < 542 := by omega
        rcases tornCopy_writing (flaws := flaws) hn' (partWritten_spec (prof := cm.image) hlen hn') with hinvalid | himage
        · rw [ht, hinvalid] at hv; cases hv
        · rw [ht, himage]

/-! ## The choice among the copies -/

/-- R135: the comparison of two generations, modulo 2^32. -/
theorem generationAbove_iff (b a : BitVec 32) : generationAbove b a = true
    ↔ 1 ≤ (b.toNat + 4294967296 - a.toNat) % 4294967296 ∧ (b.toNat + 4294967296 - a.toNat) % 4294967296 ≤ 2147483647 := by
  have hsub : (b - a).toNat = (b.toNat + 4294967296 - a.toNat) % 4294967296 := by
    rw [BitVec.toNat_sub]
    have := a.isLt
    congr 1
    omega
  rw [generationAbove, decide_eq_true_iff, hsub]

/-- Settles O8, by the validity of the two copies and the comparison of their generations. -/
theorem resetEndChoosesProfile : Obligations.ResetEndChoosesProfile := by
  unfold Obligations.ResetEndChoosesProfile
  intro s hheld
  refine ⟨_, chooseProfile s.store.copyA s.store.copyB, ?_, rfl, fun ha hb => ?_, fun ha hb => ?_, fun ha hb habove => ?_,
    fun ha hb hbelow => ?_, fun ha hb => ?_⟩
  · simp [exec, execResetEnd, hheld]
  · simp [chooseProfile, ha, hb]
  · simp [chooseProfile, ha, hb]
  · simp [chooseProfile, ha, hb, (generationAbove_iff _ _).mpr habove]
  · simp [chooseProfile, ha, hb, Bool.eq_false_iff.mpr (mt (generationAbove_iff _ _).mp hbelow)]
  · simp [chooseProfile, ha, hb]

/-! ## The completion of the load -/

theorem State.completeLoad_ports (s : State) (choice : LoadChoice) (p : PortId) :
    ((s.completeLoad choice).ports.get p) = { s.ports.get p with state := .ready } := by
  cases p <;> simp [State.completeLoad, State.startPorts, Ports.get, Port.startUp, State.enableOutputs]

theorem State.completeLoad_attention {s : State} (h : ∀ slot, s.sessions.isOpen slot = false) (choice : LoadChoice) :
    (s.completeLoad choice).attention = s.attention := by
  refine Table.ext_get fun slot => ?_
  simp only [State.completeLoad, State.startPorts_attention, State.startSupervisor]
  split
  · rw [State.deviceNotice_get, if_neg (by simp [h])]
    simp
  · simp

/-- R105: the state in which the load's first search is made. -/
def State.loadSearches (s : State) (choice : LoadChoice) : State :=
  { { s with store := s.store.loaded choice }.enableOutputs choice.profile with
    monitor := { s.monitor with state := .waiting, chans := monitorSettings choice.profile } }

/-- R105: the first search runs over the channels as the load leaves them. -/
theorem State.completeLoad_search (s : State) (choice : LoadChoice) :
    foundBySearch (s.completeLoad choice) s.monitor.scanPos (s.completeLoad choice).monitor := by
  have hmonitor : (s.completeLoad choice).monitor = (s.loadSearches choice).search.monitor := by
    simp [State.completeLoad, State.startMonitor, State.loadSearches]
  rw [hmonitor]
  refine foundBySearch_congr (s.loadSearches choice).search_found (fun c => ?_) fun c => by
    rw [s.completeLoad_outputs]; rfl
  simp only [State.eligible, s.completeLoad_outputs, s.completeLoad_monitorChans, State.completeLoad_transit]
  rfl

/-- Settles O9, block by block. -/
theorem loadCompletionDelivers : Obligations.LoadCompletionDelivers := by
  unfold Obligations.LoadCompletionDelivers
  intro s choice hchoice
  refine ⟨s.completeLoad choice, by simp [exec, execStartUpLoadCompletion, hchoice], ?_, s.completeLoad_store choice,
    fun c => ⟨?_, ?_⟩, ?_, ?_, s.completeLoad_search choice, ⟨fun href => ?_, fun href => ?_⟩,
    s.completeLoad_ports choice, fun hopen => State.completeLoad_attention hopen choice⟩
  · exact State.same (by simp) (by simp) (by simp) rfl (by simp) (by simp) rfl rfl rfl rfl rfl (by simp)
  · rw [State.completeLoad_outputs, Table.get_mapIdx]
    rfl
  · rw [State.completeLoad_monitorChans, monitorSettings, Table.get_map]
  · rw [State.completeLoad_outputs]
  · rw [State.completeLoad_outputs]
  · rw [State.completeLoad_supervisor, Supervisor.started, if_pos href]
    rfl
  · rw [State.completeLoad_supervisor, Supervisor.started, if_neg (by simp [href])]
    rfl

end Sys2Proof.Machine
end

section
/-! PROOFS. Frames: the status byte and the bits shifted out (R149, R150), SUBMIT accepted (R152, R160), COLLECT (R156,
R157), CLEAR (R159), and the taking of a response (R155, R160). -/

-- The whole text compiles close to the check's memory limit, so this part starts no threads of its own.
set_option Elab.async false

namespace Sys2Proof.Machine

/-! ## What the port does with the frame -/

/-- R149: a frame of kind COLLECT is judged as one. -/
theorem Port.judge_collect (q : Port) (stateAtFall : PortState) (bytes : List Byte) :
    q.judge stateAtFall (collectKind :: bytes) = q.takeCollect stateAtFall (bytes.length + 1) := by
  simp [Port.judge, collectKind, submitKind]

/-- R149: a frame of kind CLEAR is judged as one. -/
theorem Port.judge_clear (q : Port) (stateAtFall : PortState) (bytes : List Byte) :
    q.judge stateAtFall (clearKind :: bytes) = q.takeClear stateAtFall := by
  simp [Port.judge, clearKind, collectKind, submitKind, peekKind]

/-- R157: with no response held at the fall COLLECT frees nothing. -/
theorem Port.takeCollect_of_not_answering (q : Port) {stateAtFall : PortState} (h : stateAtFall ≠ .answering) (n : Nat) :
    q.takeCollect stateAtFall n = q := by
  cases stateAtFall with
  | answering => exact absurd rfl h
  | starting | ready | working => rfl

/-- R160: what an accepted SUBMIT leaves of the port. -/
theorem Port.accept_eq (q : Port) (r : List Byte) : q.accept r = { q with
    state := .working, dropped := false
    inFlight := if q.inFlight = none then some ⟨r, false⟩ else q.inFlight
    waiting := if q.inFlight = none then q.waiting else some r } := by
  cases h : q.inFlight <;> simp [Port.accept, h]

/-! ## SUBMIT -/

/-- Settles O11: the frame's request bytes go in flight, or wait behind an abandoned request. -/
theorem submitAccepted : Obligations.SubmitAccepted := by
  unfold Obligations.SubmitAccepted
  intro s p r tr bits htr hready hlow hhigh frame
  refine ⟨_, rfl, ?_⟩
  have hrequest : submitRequest (submitKind :: frame) = some r := submitRequest_frame hlow hhigh
  have hjudge : ∀ q : Port, q.judge tr.stateAtFall (submitKind :: frame) = q.accept r := fun q => by
    rw [q.judge_submit, hready]
    simp only [Port.takeSubmit, hrequest]
  refine (State.csRise_plain htr (.inr (by decide)) frame bits hjudge).trans ?_
  simp only [Port.accept_eq]
  simp [State.modifyPort, frame]

/-! ## COLLECT -/

/-- 0x00 bytes behind a stream are what stands after it anyway. -/
theorem getD_append_zeros (l : List Byte) (m n : Nat) : (l ++ List.replicate m 0#8).getD n 0#8 = l.getD n 0#8 := by
  rw [List.getD_eq_getElem?_getD, List.getD_eq_getElem?_getD]
  by_cases h : n < l.length
  · rw [List.getElem?_append_left h]
  · rw [List.getElem?_append_right (by omega), List.getElem?_eq_none (by omega : l.length ≤ n), List.getElem?_replicate]
    split <;> rfl

/-- R156: the whole stream of a held response. -/
def responseStream (tr : OpenTransaction) (r : List Byte) : List Byte :=
  [tr.status, BitVec.ofNat 8 r.length] ++ r ++ [crc8 (BitVec.ofNat 8 r.length :: r)]

theorem Port.answerFrame_of_held {q : Port} {tr : OpenTransaction} {r : List Byte} (hs : tr.stateAtFall = .answering)
    (hb : q.buffer = some r) (bytes : List Byte) :
    tr.status :: q.answerFrame tr.stateAtFall (collectKind :: bytes) = responseStream tr r := by
  simp [Port.answerFrame, hs, hb, responseFrame, responseStream]

theorem Port.takeCollect_of_held {q : Port} {r : List Byte} (hb : q.buffer = some r) (n : Nat) :
    q.takeCollect .answering n = { q with
      buffer := if r.length + 3 ≤ n then none else some r
      state := if r.length + 3 ≤ n then .ready else q.state } := by
  simp only [Port.takeCollect, hb]
  split
  · rfl
  · rw [← hb]

/-- Settles O13: the rise of a COLLECT that met a response at the fall. -/
theorem collectShiftsOutResponse : Obligations.CollectShiftsOutResponse := by
  unfold Obligations.CollectShiftsOutResponse
  intro s p tr r bytes bits htr hs hb stream
  refine ⟨_, rfl, ?_⟩
  have hstream : stream = responseStream tr r ++ List.replicate (bytes.length + 1) 0#8 := rfl
  refine (State.csRise_open htr).trans (congrArg (fun ports => { s with ports := ports }) (Ports.modify_congr _ _ _ _ ?_))
  rw [Port.endTransaction]
  have hlast : (s.ports.get p).nextByte tr (collectKind :: bytes) = stream.getD (bytes.length + 1) 0#8 := by
    rw [Port.nextByte, Port.answerFrame_of_held hs hb, hstream, getD_append_zeros]
    rfl
  have hout : (s.ports.get p).shifted tr (collectKind :: bytes) = stream.take (bytes.length + 1) := by
    rw [Port.shifted, Port.answerFrame_of_held hs hb, hstream]
    rfl
  show { ((s.ports.get p).judge tr.stateAtFall (collectKind :: bytes)) with
    csLow := false, transaction := none
    shiftedOut := (s.ports.get p).shifted tr (collectKind :: bytes)
    shiftedBits := (s.ports.get p).lastBits tr (collectKind :: bytes) bits } = _
  rw [Port.judge_collect, hs, Port.takeCollect_of_held hb, hout, Port.lastBits, hlast]

/-- Settles O14: the port does nothing, and 0x00 follows the status byte. -/
theorem emptyCollectChangesNothing : Obligations.EmptyCollectChangesNothing := by
  unfold Obligations.EmptyCollectChangesNothing
  refine ⟨by decide, fun s p tr bytes bits htr hs => ⟨_, rfl, ?_⟩⟩
  exact State.csRise_plain htr (.inl hs) bytes bits fun q =>
    (q.judge_collect _ bytes).trans (q.takeCollect_of_not_answering hs _)

/-! ## CLEAR -/

/-- Settles O16: by the state at the fall CLEAR clears DROPPED alone, or gives up what the port then holds. -/
theorem clearActsByState : Obligations.ClearActsByState := by
  unfold Obligations.ClearActsByState
  intro s p tr bytes bits htr hfollow hcombined
  have hrise := State.csRise_plain htr (.inr (by decide)) bytes bits fun q => q.judge_clear tr.stateAtFall bytes
  have hport : (s.transact p [clearKind] (.rise bytes bits)).ports.get p
      = { (s.ports.get p).takeClear tr.stateAtFall with
          csLow := false, transaction := none
          shiftedOut := tr.status :: List.replicate bytes.length 0x00#8
          shiftedBits := List.replicate bits.val false } := by
    rw [show s.transact p [clearKind] (.rise bytes bits) = _ from hrise, State.modifyPort_ports, Ports.get_modify,
      if_pos rfl]
  refine ⟨_, { (s.ports.get p).takeClear tr.stateAtFall with dropped := (s.ports.get p).dropped }, rfl, ?_, ?_,
    fun hf => ?_, fun hf => ?_⟩
  · refine hrise.trans (congrArg (fun ports => { s with ports := ports }) (Ports.modify_congr _ _ _ _ ?_))
    cases tr.stateAtFall <;> rfl
  · rw [State.requestAt, State.requestAt, hport]
    cases tr.stateAtFall <;> simp only [Port.takeClear, Port.giveUp]
    all_goals cases (s.ports.get p).inFlight <;> cases (s.ports.get p).produced <;> cases (s.ports.get p).reading <;> rfl
  · rcases hf with hf | hf <;> rw [hf] <;> rfl
  · have hgiven : (s.ports.get p).takeClear tr.stateAtFall = (s.ports.get p).giveUp := by
      rcases hf with hf | hf <;> rw [hf] <;> rfl
    rw [hgiven, Port.giveUp]
    refine ⟨fun r hw hi => ?_, fun r hw hi => ?_, fun ha => ?_⟩
    · have hheld := hcombined
      simp only [Port.combined, hw, hi, Option.any_some, Bool.and_eq_true, Option.isNone_iff_eq_none] at hheld
      have hwaiting : (s.ports.get p).waiting = none := by simpa using hheld.1
      simp [hi, hwaiting, hheld.2]
    · have hheld := hcombined
      simp only [Port.combined, hw, hi, Option.any_some, Bool.and_eq_true, Option.isNone_iff_eq_none] at hheld
      simp [hi, hheld.2]
    · have hheld := hcombined
      simp only [Port.combined, ha, Bool.and_eq_true, Option.isNone_iff_eq_none] at hheld
      simp [hheld.1.1, hheld.1.2]

/-! ## The production of a response -/

/-- Settles O17, by whether the request was abandoned and whether one waits behind it. -/
theorem responseProducedTaken : Obligations.ResponseProducedTaken := by
  unfold Obligations.ResponseProducedTaken
  intro s p f response hf hresponse
  refine ⟨s.modifyPort p fun q => q.takeResponse f response,
    { (s.ports.get p).takeResponse f response with produced := (s.ports.get p).produced },
    by simp [exec, execResponseProduced, hf, hresponse], ?_, fun hkept => ?_, fun habandoned hw => ?_, fun r habandoned hw => ?_⟩
  · refine congrArg (fun ports => { s with ports := ports }) (Ports.modify_congr _ _ _ _ ?_)
    unfold Port.takeResponse
    split <;> rfl
  · simp [Port.takeResponse, hkept]
  · simp [Port.takeResponse, habandoned, hw]
  · simp [Port.takeResponse, habandoned, hw]

/-! ## The status byte -/

/-- R150: the fields of the status byte, by their weights. -/
theorem statusByte_fields {port att dropped sup quiesced defaulted : Nat} (hatt : att ≤ 1)
    (hdropped : dropped ≤ 1) (hsup : sup ≤ 3) (hquiesced : quiesced ≤ 1) (hdefaulted : defaulted ≤ 1) :
    let status := BitVec.ofNat 8 (port * 64 + att * 32 + dropped * 16 + sup * 4 + quiesced * 2 + defaulted)
    status.extractLsb' 6 2 = BitVec.ofNat 2 port ∧ status.getLsbD 5 = decide (att = 1)
      ∧ status.getLsbD 4 = decide (dropped = 1) ∧ status.extractLsb' 2 2 = BitVec.ofNat 2 sup
      ∧ status.getLsbD 1 = decide (quiesced = 1) ∧ status.getLsbD 0 = decide (defaulted = 1) := by
  refine ⟨BitVec.eq_of_toNat_eq ?_, ?_, ?_, BitVec.eq_of_toNat_eq ?_, ?_, ?_⟩
  · simp only [BitVec.extractLsb'_toNat, BitVec.toNat_ofNat, Nat.shiftRight_eq_div_pow]; omega
  · rw [BitVec.getLsbD_ofNat, Nat.testBit_eq_decide_div_mod_eq]; simp; omega
  · rw [BitVec.getLsbD_ofNat, Nat.testBit_eq_decide_div_mod_eq]; simp; omega
  · simp only [BitVec.extractLsb'_toNat, BitVec.toNat_ofNat, Nat.shiftRight_eq_div_pow]; omega
  · rw [BitVec.getLsbD_ofNat, Nat.testBit_eq_decide_div_mod_eq]; simp; omega
  · rw [BitVec.getLsbD_ofNat, Nat.testBit_eq_decide_div_mod_eq]; simp; omega

theorem decide_toNat_eq_one (b : Bool) : decide (b.toNat = 1) = b := by cases b <;> rfl

/-! ## The record of SDO -/

theorem Port.shifted_length (q : Port) (tr : OpenTransaction) (bytes : List Byte) :
    (q.shifted tr bytes).length = bytes.length := by
  simp [Port.shifted]
  omega

theorem Port.lastBits_length (q : Port) (tr : OpenTransaction) (bytes : List Byte) (bits : Fin 8) :
    (q.lastBits tr bytes bits).length = bits.val := by simp [Port.lastBits]

theorem Port.lastBits_getD (q : Port) (tr : OpenTransaction) (bytes : List Byte) {bits k : Fin 8} (h : k < bits) :
    (q.lastBits tr bytes bits).getD k.val false = (q.nextByte tr bytes).getMsbD k.val := by
  have hk : k.val < bits.val := h
  simp [Port.lastBits, hk]

/-- R149: the port after the rise of a transaction. -/
theorem State.csRise_port {s : State} {p : PortId} {tr : OpenTransaction} {bytes : List Byte} {bits : Fin 8}
    (h : (s.ports.get p).transaction = some tr) :
    (s.csRise p bytes bits).ports.get p = (s.ports.get p).endTransaction tr bytes bits := by
  rw [State.csRise_open h, State.modifyPort_ports, Ports.get_modify, if_pos rfl]

/-- R150: the fall as one change of the port. -/
theorem State.csFall_begins {s : State} {p : PortId} (hr : s.resetHeld = false) (hc : (s.ports.get p).csLow = false) :
    s.csFall p = { s with ports := s.ports.modify p fun q => { q with
      csLow := true, transaction := some ⟨q.state, statusByte s p⟩ } } := by
  simp [State.csFall_high hc, State.modifyPort, hr]

/-- Settles O10: the frames' common fall and rise, the record of SDO, and the fields of the status byte. -/
theorem chipSelectFallFormsStatus : Obligations.ChipSelectFallFormsStatus := by
  unfold Obligations.ChipSelectFallFormsStatus
  refine ⟨fun s p bytes bits frame hframe => ?_, fun s p bytes bits => sdoPin_undriven,
    fun s p tr bytes bits hr hc htr => ?_, fun s p hr hc => ?_⟩
  · simp only [List.mem_cons, List.not_mem_nil, or_false] at hframe
    rcases hframe with rfl | rfl | rfl | rfl | rfl <;> exact ⟨s.csFall p, rfl, rfl⟩
  · refine ⟨s.csRise p bytes bits, rfl, ?_⟩
    rw [State.csRise_port htr]
    refine ⟨rfl, rfl, Port.shifted_length _ tr bytes, Port.lastBits_length _ tr bytes bits, fun n k hn => ?_, fun k hk => ?_,
      ?_⟩
    · rw [sdoPin_open hr hc htr]
      exact congrArg (fun b : Byte => SdoPin.driven (b.getMsbD k.val)) (Port.shifted_getD _ tr bytes hn).symm
    · rw [sdoPin_open hr hc htr]
      exact congrArg SdoPin.driven (Port.lastBits_getD _ tr bytes hk).symm
    · rintro rfl
      rw [State.csRise_open htr]
      exact congrArg (fun ports => { s with ports := ports }) (Ports.modify_congr _ _ _ _ rfl)
  · have hfall := State.csFall_begins hr hc
    have hport : (s.csFall p).ports.get p = { s.ports.get p with
        csLow := true, transaction := some ⟨(s.ports.get p).state, statusByte s p⟩ } := by
      rw [hfall, Ports.get_modify, if_pos rfl]
    have hfields := statusByte_fields (attnAsserted s p).toNat_le (s.ports.get p).dropped.toNat_le
      s.supervisor.state.code_le_three s.outputs.quiesced.toNat_le s.store.defaulted.toNat_le (port := (s.ports.get p).state.code)
    simp only [decide_toNat_eq_one] at hfields
    obtain ⟨hstate, hattn, hdropped, hsup, hquiesced, hdefaulted⟩ := hfields
    refine ⟨s.csFall p, statusByte s p, rfl, rfl, rfl, rfl, rfl, hfall, fun k => ?_, hstate.trans ?_, hattn, hdropped,
      hsup.trans ?_, hquiesced, hdefaulted⟩
    · rw [sdoPin_open (tr := ⟨(s.ports.get p).state, statusByte s p⟩) (by simpa using hr) (by rw [hport]) (by rw [hport])]
      rfl
    · cases (s.ports.get p).state <;> rfl
    · cases s.supervisor.state <;> rfl

end Sys2Proof.Machine
end

section
/-! PROOFS. Requests on their way to their owner: the session-handle check and the role check (R58, R167), the handle
checks of the claim requests (R3), and OPEN (R54 to R56). -/

-- The whole text compiles close to the check's memory limit, so this part starts no threads of its own.
set_option Elab.async false

namespace Sys2Proof.Machine

/-! ## What the owner of a request meets -/

/-- R59: the state an owner block meets: the requester's keepalive reloaded. -/
abbrev State.asked (s : State) (slot : Slot) : State := { s with sessions := s.sessions.reload slot }

/-- R58: the requester as the session-handle check passes it. -/
abbrev requester (slot : Slot) (info : SessionInfo) : Requester := ⟨slot, { info with remaining := info.interval }⟩

theorem State.asked_requesterId (s : State) (slot : Slot) (info : SessionInfo) :
    (s.asked slot).requesterId (requester slot info) = s.sessions.idOf slot := SessionTable.reload_idOf _ _ _

/-- R169: an answer with this payload is the one response. -/
theorem answered_of_payload {s u : State} {p : PortId} {code : Byte} {reply : Reply} {payload : List Byte}
    (hports : u.ports = s.ports) (hpayload : reply.payload = payload) :
    answered s (u.answer p code reply) p code reply.result payload := by
  rw [answered, State.answer_ports, hports, hpayload]

section Served
variable {α : Type} {s : State} {p : PortId} {k : RequestCode} {r : List Byte} {slot : Slot} {info : SessionInfo}
  {decode : List Byte → Except Result α} {maintenanceOnly : Bool} {owner : State → Requester → α → State × Reply} {q : α}

/-- R163: a request that passes is answered as its owner says. -/
theorem State.serve_owned (ha : s.asks p k r slot info) (hd : decode r = .ok q)
    (hm : maintenanceOnly = true → info.role = .maintenance) {u : State} {reply : Reply}
    (ho : owner (s.asked slot) (requester slot info) q = (u, reply)) :
    s.serve p k decode maintenanceOnly owner = u.answer p k.byte reply := by
  rw [State.serve_owner ha hd hm, ho]

/-- R163: an owner that changes nothing answers so, with the keepalive reloaded. -/
theorem State.serve_unchanged (ha : s.asks p k r slot info) (hd : decode r = .ok q)
    (hm : maintenanceOnly = true → info.role = .maintenance) {reply : Reply}
    (ho : owner (s.asked slot) (requester slot info) q = (s.asked slot, reply)) :
    ∃ t, (.next (s.serve p k decode maintenanceOnly owner) : Host.Outcome State Fault Refusal) = .next t
      ∧ t = { s with ports := t.ports, sessions := t.sessions } ∧ reloaded s t slot info
      ∧ answered s t p k.byte reply.result reply.payload :=
  ⟨_, congrArg Host.Outcome.next (State.serve_owned ha hd hm ho), rfl, SessionTable.reload_reloaded ha.2.2.1 rfl, rfl⟩

end Served

/-! ## The session-handle check and the role check -/

theorem SessionTable.check_unnamed {st : SessionTable} {h : WireHandle} (hn : st.named h = none) (p : PortId) :
    st.check p h = .refused .noSession st := by simp [SessionTable.check, hn]

theorem SessionTable.check_closed {st : SessionTable} {h : WireHandle} {slot : Slot} (hn : st.named h = some slot)
    (hs : (st.recs.get slot).state = .closed) (p : PortId) : st.check p h = .refused .noSession st := by
  simp [SessionTable.check, hn, hs]

theorem SessionTable.check_lapsed {st : SessionTable} {h : WireHandle} {slot : Slot} (hn : st.named h = some slot)
    (hs : (st.recs.get slot).state = .lapsed) (p : PortId) :
    st.check p h = .refused .sessionLapsed (st.closeLapsed slot) := by
  simp [SessionTable.check, hn, hs]

theorem SessionTable.check_otherPort {st : SessionTable} {h : WireHandle} {slot : Slot} {info : SessionInfo}
    (hn : st.named h = some slot) (hs : (st.recs.get slot).state = .opened info) {p : PortId} (hp : info.port ≠ p) :
    st.check p h = .refused .wrongPort st := by
  simp [SessionTable.check, hn, hs, hp]

section Commands
variable {s : State} {p : PortId} {k : RequestCode} {r : List Byte} {slot : Slot} {info : SessionInfo}

/-- R58: for every code but OPEN, a session handle refused is answered so, after what the check leaves. -/
theorem exec_sessionRefused {why : Result} {st : SessionTable} (hr : s.requestOf p k.byte = some r)
    (hk : k ≠ .openSession) (hf : RequestCode.formRefusal k r = none)
    (hc : s.sessions.check p (handleAt r 1) = .refused why st) :
    exec (RequestCode.command p k) s = .next ({ s with sessions := st }.answer p k.byte (refuse why)) := by
  cases k with
  | openSession => exact absurd rfl hk
  | queryDevice =>
    obtain ⟨q, hd⟩ := refusalOf_eq_none.mp hf
    have hreading := (State.requestAt_eq_some.mp (State.requestOf_eq_some.mp hr).1).2.2
    simp [RequestCode.command, exec, execQueryDevice, hreading, State.commonChecks_sessionRefused hr hd hc]
  | _ =>
    obtain ⟨q, hd⟩ := refusalOf_eq_none.mp hf
    exact congrArg Host.Outcome.next (State.serve_sessionRefused hr hd hc)

/-- R167: the four reserved requests refuse a CONTROL session. -/
theorem exec_notPermitted (ha : s.asks p k r slot info) (hc : info.role = .control)
    (hk : k ∈ [.revoke, .profileStage, .profileCommit, .profileDiscard]) (hf : RequestCode.formRefusal k r = none) :
    exec (RequestCode.command p k) s = .next ((s.asked slot).answer p k.byte (refuse .notPermitted)) := by
  simp only [List.mem_cons, List.not_mem_nil, or_false] at hk
  rcases hk with rfl | rfl | rfl | rfl
  all_goals
    obtain ⟨q, hd⟩ := refusalOf_eq_none.mp hf
    exact congrArg Host.Outcome.next (State.serve_notPermitted ha hd hc)

end Commands

/-- Settles O19, by what the session-handle check finds. -/
theorem handleAndRoleChecked : Obligations.HandleAndRoleChecked := by
  unfold Obligations.HandleAndRoleChecked
  intro s p k r hr hk hf
  refine ⟨fun hnone => ?_, fun slot hn hs => ?_, fun slot info hn hs hp => ?_, fun slot info ha hc hmem => ?_⟩
  · have hcheck : s.sessions.check p (handleAt r 1) = .refused .noSession s.sessions := by
      rcases hnone with hn | ⟨slot, hn, hs⟩
      · exact SessionTable.check_unnamed hn p
      · exact SessionTable.check_closed hn hs p
    exact ⟨_, exec_sessionRefused hr hk hf hcheck, rfl, rfl⟩
  · refine ⟨_, exec_sessionRefused hr hk hf (SessionTable.check_lapsed hn hs p), rfl, rfl, ?_, fun j hj => ?_, rfl⟩
    · exact (s.sessions.closeLapsed_recs slot slot).trans (if_pos rfl)
    · exact (s.sessions.closeLapsed_recs slot j).trans (if_neg hj)
  · exact ⟨_, exec_sessionRefused hr hk hf (SessionTable.check_otherPort hn hs hp), rfl, rfl⟩
  · exact ⟨_, exec_notPermitted ha hc hmem hf, rfl, SessionTable.reload_reloaded ha.2.2.1 rfl, rfl⟩

/-! ## The handle checks of the claim requests -/

section Handles
variable {t : ClaimTable} {h : WireHandle} {mustOwn : Bool} {who : SessionId} {i : RecIdx} {b : ClaimBody}

theorem ClaimTable.liveFor_noClaim (hr : t.resolve h = none) : t.liveFor h mustOwn who = .error .noClaim := by
  simp [ClaimTable.liveFor, hr]

theorem ClaimTable.liveFor_retired (hr : t.resolve h = some i) (hl : t.live? i = none) :
    t.liveFor h mustOwn who = .error .retired := by
  simp [ClaimTable.liveFor, hr, hl]

theorem ClaimTable.liveFor_notOwner (hr : t.resolve h = some i) (hl : t.live? i = some b) (ho : b.owner ≠ who) :
    t.liveFor h true who = .error .notOwner := by
  simp [ClaimTable.liveFor, hr, hl, ho]

theorem ClaimTable.ownedFor_noClaim (hr : t.resolve h = none) : t.ownedFor h who = .error .noClaim := by
  simp [ClaimTable.ownedFor, hr]

theorem ClaimTable.ownedFor_notOwner (hr : t.resolve h = some i) (hb : t.body? i = some b) (ho : b.owner ≠ who) :
    t.ownedFor h who = .error .notOwner := by
  simp [ClaimTable.ownedFor, hr, hb, ho]

end Handles

/-- R3: the requests that need a LIVE claim. -/
def needsLive (k : RequestCode) : Bool := k matches .set | .setIf | .renew | .transfer | .revoke

section ClaimRequests
variable {s : State} {p : PortId} {k : RequestCode} {r : List Byte} {slot : Slot} {info : SessionInfo} {why : Result}

/-- R3: a request that needs a LIVE claim is refused as the check of its handle refuses it. -/
theorem exec_liveRefused (ha : s.asks p k r slot info) (hf : RequestCode.formRefusal k r = none)
    (hk : needsLive k = true) (hm : k = .revoke → info.role = .maintenance)
    (hl : s.claims.liveFor (handleAt r 3) (!(k == .revoke)) (s.sessions.idOf slot) = .error why) :
    ∃ t, exec (RequestCode.command p k) s = .next t ∧ t = { s with ports := t.ports, sessions := t.sessions }
      ∧ reloaded s t slot info ∧ answered s t p k.byte why [] := by
  rw [← s.asked_requesterId slot info] at hl
  cases k with
  | set =>
    obtain ⟨q, hd⟩ := refusalOf_eq_none.mp hf
    rw [← show q.handle = handleAt r 3 from (decodeSet_ok hd).1] at hl
    exact State.serve_unchanged ha hd (by simp) (reply := refuse why) (by
      simp only [ownSet]; rw [show (s.asked slot).claims.liveFor q.handle true _ = _ from hl])
  | setIf =>
    obtain ⟨q, hd⟩ := refusalOf_eq_none.mp hf
    rw [← show q.handle = handleAt r 3 from (decodeSetIf_ok hd).1] at hl
    exact State.serve_unchanged ha hd (by simp) (reply := refuse why) (by
      simp only [ownSetIf]; rw [show (s.asked slot).claims.liveFor q.handle true _ = _ from hl])
  | renew =>
    obtain ⟨q, hd⟩ := refusalOf_eq_none.mp hf
    rw [← show q.handle = handleAt r 3 from (decodeRenew_ok hd).1] at hl
    exact State.serve_unchanged ha hd (by simp) (reply := refuse why) (by
      simp only [ownRenew]; rw [show (s.asked slot).claims.liveFor q.handle true _ = _ from hl])
  | transfer =>
    obtain ⟨q, hd⟩ := refusalOf_eq_none.mp hf
    rw [← show q.handle = handleAt r 3 from (decodeTransfer_ok hd).1] at hl
    exact State.serve_unchanged ha hd (by simp) (reply := refuse why) (by
      simp only [ownTransfer]; rw [show (s.asked slot).claims.liveFor q.handle true _ = _ from hl])
  | revoke =>
    obtain ⟨q, hd⟩ := refusalOf_eq_none.mp hf
    rw [← show q = handleAt r 3 from decodeHandle_ok hd] at hl
    exact State.serve_unchanged ha hd (fun _ => hm rfl) (reply := refuse why) (by
      simp only [ownRevoke]; rw [show (s.asked slot).claims.liveFor q false _ = _ from hl])
  | _ => cases hk

/-- R3, R19: so is RELEASE, which accepts a RETIRED claim. -/
theorem exec_releaseRefused (ha : s.asks p .release r slot info) (hf : RequestCode.formRefusal .release r = none)
    (ho : s.claims.ownedFor (handleAt r 3) (s.sessions.idOf slot) = .error why) :
    ∃ t, exec (.release p) s = .next t ∧ t = { s with ports := t.ports, sessions := t.sessions }
      ∧ reloaded s t slot info ∧ answered s t p RequestCode.release.byte why [] := by
  obtain ⟨q, hd⟩ := refusalOf_eq_none.mp hf
  rw [← s.asked_requesterId slot info, ← show q = handleAt r 3 from decodeHandle_ok hd] at ho
  exact State.serve_unchanged ha hd (by simp) (reply := refuse why) (by
    simp only [ownRelease]; rw [show (s.asked slot).claims.ownedFor q _ = _ from ho])

/-- R28: QUERY_CLAIM asks that the handle resolves and no more. -/
theorem exec_queryClaimRefused (ha : s.asks p .queryClaim r slot info)
    (hf : RequestCode.formRefusal .queryClaim r = none) (hr : s.claims.resolve (handleAt r 3) = none) :
    ∃ t, exec (.queryClaim p) s = .next t ∧ t = { s with ports := t.ports, sessions := t.sessions }
      ∧ reloaded s t slot info ∧ answered s t p RequestCode.queryClaim.byte .noClaim [] := by
  obtain ⟨q, hd⟩ := refusalOf_eq_none.mp hf
  rw [← show q = handleAt r 3 from decodeHandle_ok hd] at hr
  exact State.serve_unchanged ha hd (by simp) (reply := refuse .noClaim) (by simp only [ownQueryClaim, hr])

end ClaimRequests

theorem ClaimTable.live?_of_retired {t : ClaimTable} {i : RecIdx} {b : ClaimBody} {why : RetireReason}
    (h : (t.recs.get i).state = .retired b why) : t.live? i = none := by simp [ClaimTable.live?, h]

/-- Settles O31, by what the handle resolves to. -/
theorem claimHandleChecked : Obligations.ClaimHandleChecked := by
  unfold Obligations.ClaimHandleChecked
  intro s p k r slot info ha hf hk hm refusedWith
  refine ⟨fun hnone => ?_, fun i b why hr hs hmem => ?_, fun i b hr hl ho hmem => ?_, fun i b hr hb ho hrelease => ?_⟩
  · by_cases hlive : needsLive k = true
    · exact exec_liveRefused ha hf hlive hm (ClaimTable.liveFor_noClaim hnone)
    · simp only [List.mem_cons, List.not_mem_nil, or_false] at hk
      rcases hk with rfl | rfl | rfl | rfl | rfl | rfl | rfl
      case inr.inr.inr.inl => exact exec_releaseRefused ha hf (ClaimTable.ownedFor_noClaim hnone)
      case inr.inr.inr.inr.inr.inr => exact exec_queryClaimRefused ha hf hnone
      all_goals exact absurd rfl hlive
  · refine exec_liveRefused ha hf ?_ hm (ClaimTable.liveFor_retired hr (ClaimTable.live?_of_retired hs))
    simp only [List.mem_cons, List.not_mem_nil, or_false] at hmem
    rcases hmem with rfl | rfl | rfl | rfl | rfl <;> rfl
  · simp only [List.mem_cons, List.not_mem_nil, or_false] at hmem
    rcases hmem with rfl | rfl | rfl | rfl | rfl
    case inr.inr.inr.inl => exact exec_releaseRefused ha hf (ClaimTable.ownedFor_notOwner hr (ClaimTable.body?_of_live? hl) ho)
    all_goals exact exec_liveRefused ha hf rfl hm (ClaimTable.liveFor_notOwner hr hl ho)
  · subst hrelease
    exact exec_releaseRefused ha hf (ClaimTable.ownedFor_notOwner hr hb ho)

/-! ## OPEN -/

/-- The lowest number with a property. -/
theorem find?_finRange {n : Nat} {p : Fin n → Bool} {i : Fin n} :
    (List.finRange n).find? p = some i ↔ p i = true ∧ ∀ j, j < i → p j = false := by
  rw [List.find?_eq_some_iff_getElem]
  constructor
  · rintro ⟨hp, m, hm, hi, hbefore⟩
    refine ⟨hp, fun j hj => ?_⟩
    have hmi : m = i.val := by simpa using congrArg Fin.val hi
    have hj' : j.val < m := hmi ▸ hj
    simpa using hbefore j.val hj'
  · rintro ⟨hp, hbefore⟩
    refine ⟨hp, i.val, by simp, by simp, fun j hj => ?_⟩
    simpa using hbefore ⟨j, hj.trans i.isLt⟩ hj

theorem SessionTable.tagHolder_eq_some {st : SessionTable} {p : PortId} {tag : BitVec 16} {j : Slot} {i : SessionInfo}
    (hi : st.info? j = some i) (hp : i.port = p) (ht : i.tag = tag)
    (hfirst : ∀ k, k < j → ∀ i' ∈ st.info? k, ¬ (i'.port = p ∧ i'.tag = tag)) : st.tagHolder p tag = some j := by
  refine find?_finRange.mpr ⟨by simp [hi, hp, ht], fun k hk => ?_⟩
  cases hi : st.info? k with
  | none => rfl
  | some i' => simpa using hfirst k hk i' hi

theorem SessionTable.tagHolder_none {st : SessionTable} {p : PortId} {tag : BitVec 16}
    (h : ∀ j, ∀ i ∈ st.info? j, ¬ (i.port = p ∧ i.tag = tag)) : st.tagHolder p tag = none := by
  refine List.find?_eq_none.mpr fun j _ => ?_
  cases hi : st.info? j with
  | none => simp
  | some i => simpa using h j i hi

theorem SessionTable.maintenanceHeld_false {st : SessionTable} (h : ∀ j, ∀ i ∈ st.info? j, i.role = .control) :
    ¬ st.maintenanceHeld = true := by
  rw [SessionTable.maintenanceHeld_iff]
  rintro ⟨j, i, hi, hrole⟩
  rw [h j i hi] at hrole
  cases hrole

theorem SessionTable.lowestClosed_none {st : SessionTable} (h : ∀ j, (st.recs.get j).state ≠ .closed) :
    st.lowestClosed = none := by
  refine List.find?_eq_none.mpr fun j _ => ?_
  simpa using h j

/-- R55: the slot an accepted OPEN takes. -/
theorem SessionTable.slotToTake_eq_some {st : SessionTable} {slot : Slot}
    (h : ((st.recs.get slot).state = .closed ∧ ∀ j, j < slot → (st.recs.get j).state ≠ .closed)
      ∨ ((∀ j, (st.recs.get j).state ≠ .closed) ∧ st.lapseList.head? = some slot)) : st.slotToTake = some slot := by
  rcases h with ⟨hclosed, hfirst⟩ | ⟨hnone, hlapse⟩
  · have hlowest : st.lowestClosed = some slot :=
      find?_finRange.mpr ⟨by simpa using hclosed, fun j hj => by simpa using hfirst j hj⟩
    simp [SessionTable.slotToTake, hlowest]
  · simp [SessionTable.slotToTake, SessionTable.lowestClosed_none hnone, hlapse]

section Open
variable {s : State} {p : PortId} {r : List Byte} {q : OpenParams}

/-- R163: OPEN is answered as the session table says. -/
theorem exec_openSession (hr : s.requestOf p 0x01#8 = some r) (hd : decodeOpen r = .ok q) :
    exec (.openSession p) s = .next ((ownOpen p s q).1.answer p 0x01#8 (ownOpen p s q).2) := by
  have hr' : s.requestOf p RequestCode.openSession.byte = some r := hr
  simp only [exec, execOpenSession, State.serveOpen, hr', hd]
  rfl

theorem ownOpen_tagInUse {j : Slot} (h : s.sessions.tagHolder p q.tag = some j) :
    ownOpen p s q = (s, ⟨.tagInUse, (s.sessions.idOf j).bytes⟩) := by simp [ownOpen, h]

theorem ownOpen_maintenanceHeld (h : s.sessions.tagHolder p q.tag = none) (hrole : q.role = .maintenance)
    (hheld : s.sessions.maintenanceHeld = true) : ownOpen p s q = (s, refuse .maintenanceHeld) := by
  simp [ownOpen, h, hrole, hheld]

theorem ownOpen_exhausted (h : s.sessions.tagHolder p q.tag = none)
    (hrole : ¬ (q.role = .maintenance ∧ s.sessions.maintenanceHeld = true)) (hslot : s.sessions.slotToTake = none) :
    ownOpen p s q = (s, refuse .sessionsExhausted) := by
  simp only [ownOpen, h, if_neg hrole, hslot]

theorem ownOpen_granted (h : s.sessions.tagHolder p q.tag = none)
    (hrole : ¬ (q.role = .maintenance ∧ s.sessions.maintenanceHeld = true)) {slot : Slot}
    (hslot : s.sessions.slotToTake = some slot) : ownOpen p s q
      = (s.openSession slot p q, okWith (openPayload s ((s.sessions.openSlot slot p q).idOf slot) p)) := by
  simp only [ownOpen, h, if_neg hrole, hslot]

end Open

/-- Settles O21, check by check. -/
theorem openRefused : Obligations.OpenRefused := by
  unfold Obligations.OpenRefused
  intro s p r q hr hd
  have hx := exec_openSession hr hd
  refine ⟨fun j i hi hp ht hfirst => ?_, fun hnone hrole hheld => ?_, fun hnone hrole hclosed hlapse => ?_⟩
  · rw [ownOpen_tagInUse (SessionTable.tagHolder_eq_some hi hp ht hfirst)] at hx
    exact ⟨_, hx, rfl, rfl⟩
  · rw [ownOpen_maintenanceHeld (SessionTable.tagHolder_none hnone) hrole (SessionTable.maintenanceHeld_iff.mpr hheld)] at hx
    exact ⟨_, hx, rfl, rfl⟩
  · rw [ownOpen_exhausted (SessionTable.tagHolder_none hnone)
      (fun hr => SessionTable.maintenanceHeld_false (hrole hr.1) hr.2)
      (by simp [SessionTable.slotToTake, SessionTable.lowestClosed_none hclosed, hlapse])] at hx
    exact ⟨_, hx, rfl, rfl⟩

/-- R56, R68: the list of a session just opened. -/
theorem openingEntries (s : State) : (openingNotices s).foldl (fun l k => addDevice k l) []
    = (if s.supervisor.state = .locked then [] else [.device .timebase])
      ++ (if s.outputs.quiesced then [.device .quiesce] else []) ++ (if s.store.defaulted then [.device .profile] else []) := by
  unfold openingNotices
  split <;> split <;> split <;> simp [addDevice]

/-- Settles O20: the slot taken, its list and the response. -/
theorem openTakesSlot : Obligations.OpenTakesSlot := by
  unfold Obligations.OpenTakesSlot
  intro s p r q slot hr hd htag hrole hslot
  have hx := exec_openSession hr hd
  rw [ownOpen_granted (SessionTable.tagHolder_none htag)
    (fun hr => SessionTable.maintenanceHeld_false (hrole hr.1) hr.2) (SessionTable.slotToTake_eq_some hslot)] at hx
  refine ⟨_, hx, rfl, (s.sessions.openSlot_recs slot slot p q).trans (if_pos rfl),
    fun j hj => (s.sessions.openSlot_recs slot j p q).trans (if_neg hj), rfl, ?_,
    fun j hj => Table.get_set_ne _ _ hj, ?_⟩
  · exact (Table.get_set_self _ _ _).trans (openingEntries s)
  · have hgen : ((s.sessions.openSlot slot p q).recs.get slot).gen = (s.sessions.recs.get slot).gen + 1 := by
      rw [s.sessions.openSlot_recs, if_pos rfl]
    refine answered_of_payload rfl ?_
    simp only [okWith, openPayload, SessionId.bytes, SessionTable.idOf, hgen]
    cases p <;> rfl

end Sys2Proof.Machine
end

section
/-! PROOFS. The claim requests that move no top: CLAIM refused (R11, R12), SET and SET_IF (R17, R18), RENEW (R36, R37) and
TRANSFER (R20, R21). -/

-- The whole text compiles close to the check's memory limit, so this part starts no threads of its own.
set_option Elab.async false

namespace Sys2Proof.Machine

/-! ## Checks in order -/

/-- The result of the first check that fails, of checks given with their results. -/
def firstFailing (checks : List (Bool × Result)) : Option Result := (checks.find? fun x => x.1).map fun x => x.2

@[simp] theorem firstFailing_nil : firstFailing [] = none := rfl

@[simp] theorem firstFailing_cons (failed : Bool) (why : Result) (checks : List (Bool × Result)) :
    firstFailing ((failed, why) :: checks) = if failed = true then some why else firstFailing checks := by
  cases failed <;> rfl

theorem firstFailing_eq_none {checks : List (Bool × Result)} :
    firstFailing checks = none ↔ checks.find? (fun x => x.1) = none := Option.map_eq_none_iff

/-! ## CLAIM refused -/

/-- R11: the checks on the device and the requesting session, with their results. -/
def claimDeviceChecks (s : State) (p : PortId) (slot : Slot) (q : ClaimParams) : List (Bool × Result) :=
  [(s.supervisor.state == .starting || s.supervisor.state == .lapsed, .timebase), (s.outputs.quiesced, .quiesced),
   (s.store.commit.isSome, .committing), (decide (s.store.active.ceiling p < q.priority), .priorityCeiling),
   (decide (16 ≤ s.claims.ownedCount (s.sessions.idOf slot)), .sessionFull),
   (decide (∀ i, s.claims.isFree i = false), .poolEmpty)]

/-- R12: the checks on one pair, with their results. -/
def claimPairChecks (s : State) (q : ClaimParams) (pr : Pair) : List (Bool × Result) :=
  [((s.outputs.chans.get pr.chan).condition == .faulted, .channelFaulted),
   (!s.store.active.withinLimits pr, .outOfLimits),
   ((s.claims.holders.get pr.chan).any (fun j => s.claims.priority j == q.priority), .priorityTaken),
   (decide (4 ≤ (s.claims.holders.get pr.chan).length), .stackFull),
   (q.disposition == .immediate
      && (s.claims.top pr.chan).any (fun j => decide (q.priority < s.claims.priority j)), .notTop)]

theorem ClaimTable.lowestFree_isNone {t : ClaimTable} : t.lowestFree.isNone = true ↔ ∀ i, t.isFree i = false := by
  simp [ClaimTable.lowestFree]

theorem claimDeviceRefusal_eq {s : State} {p : PortId} {r : List Byte} {slot : Slot} {info : SessionInfo}
    (ha : s.asks p .claim r slot info) (q : ClaimParams) :
    claimDeviceRefusal (s.asked slot) (requester slot info) q = firstFailing (claimDeviceChecks s p slot q) := by
  simp only [claimDeviceRefusal, State.asked_requesterId, ha.2.2.2, ClaimTable.lowestFree_isNone]
  simp [claimDeviceChecks, Config.maxOwned]

theorem claimPairRefusal_eq (s : State) (slot : Slot) (q : ClaimParams) (pr : Pair) :
    claimPairRefusal (s.asked slot) q pr = firstFailing (claimPairChecks s q pr) := by
  simp [claimPairRefusal, claimPairChecks, Config.stackDepth]

theorem claimPairsRefusal_eq_some {s : State} {slot : Slot} {q : ClaimParams} {before after : List Pair} {pr : Pair}
    {why : Result} (hpairs : q.pairs = before ++ pr :: after)
    (hbefore : ∀ pr' ∈ before, firstFailing (claimPairChecks s q pr') = none)
    (hpr : firstFailing (claimPairChecks s q pr) = some why) :
    claimPairsRefusal (s.asked slot) q = some (refuseAt why pr.chan) := by
  have hnone : before.findSome? (fun pr' => (claimPairRefusal (s.asked slot) q pr').map fun why => refuseAt why pr'.chan)
      = none := List.findSome?_eq_none_iff.mpr fun pr' hmem => by
    rw [claimPairRefusal_eq, hbefore pr' hmem]
    rfl
  rw [claimPairsRefusal, hpairs, List.findSome?_append, hnone, List.findSome?_cons, claimPairRefusal_eq, hpr]
  rfl

theorem ownClaim_deviceRefused {s : State} {who : Requester} {q : ClaimParams} {why : Result}
    (h : claimDeviceRefusal s who q = some why) : ownClaim s who q = (s, refuse why) := by
  simp only [ownClaim, h]

theorem ownClaim_pairRefused {s : State} {who : Requester} {q : ClaimParams} {reply : Reply}
    (hd : claimDeviceRefusal s who q = none) (hp : claimPairsRefusal s q = some reply) :
    ownClaim s who q = (s, reply) := by
  simp only [ownClaim, hd, hp]

/-- Settles O24: the two lists of checks are those of the claim table, first failure first. -/
theorem claimRefusedInOrder : Obligations.ClaimRefusedInOrder := by
  unfold Obligations.ClaimRefusedInOrder
  intro s p r slot info q ha hd deviceChecks pairChecks
  have hdevice := claimDeviceRefusal_eq ha q
  refine ⟨fun why hwhy => ?_, fun before pr after why hnone hpairs hbefore hpr => ?_⟩
  · exact State.serve_unchanged ha hd (by simp) (reply := refuse why) (ownClaim_deviceRefused (hdevice.trans hwhy))
  · exact State.serve_unchanged ha hd (by simp) (reply := refuseAt why pr.chan)
      (ownClaim_pairRefused (hdevice.trans (firstFailing_eq_none.mpr hnone))
        (claimPairsRefusal_eq_some hpairs (fun pr' hmem => firstFailing_eq_none.mpr (hbefore pr' hmem)) hpr))

/-! ## Values stored -/

/-- Of pairs with no channel twice, the one of its channel. -/
theorem find?_of_nodup {news : List Pair} (h : (news.map Pair.chan).Nodup) {pr : Pair} (hpr : pr ∈ news) :
    news.find? (fun n => n.chan == pr.chan) = some pr := by
  induction news with
  | nil => cases hpr
  | cons n news ih =>
    obtain ⟨hnot, hnodup⟩ := List.nodup_cons.mp h
    rcases List.mem_cons.mp hpr with rfl | hmem
    · simp
    · have hne : ¬ n.chan = pr.chan := fun he => hnot (he ▸ List.mem_map_of_mem hmem)
      simpa [List.find?_cons, hne] using ih hnodup hmem

theorem filter_of_nodup {news : List Pair} (h : (news.map Pair.chan).Nodup) {pr : Pair} (hpr : pr ∈ news) :
    news.filter (fun n => n.chan == pr.chan) = [pr] := by
  induction news with
  | nil => cases hpr
  | cons n news ih =>
    obtain ⟨hnot, hnodup⟩ := List.nodup_cons.mp h
    rcases List.mem_cons.mp hpr with rfl | hmem
    · have hrest : news.filter (fun n => n.chan == pr.chan) = [] := List.filter_eq_nil_iff.mpr fun n hn => by
        simpa using fun he : n.chan = pr.chan => hnot (he ▸ List.mem_map_of_mem hn)
      simp [hrest]
    · have hne : ¬ n.chan = pr.chan := fun he => hnot (he ▸ List.mem_map_of_mem hmem)
      simpa [List.filter_cons, hne] using ih hnodup hmem

/-- R17: the value stored for a channel after new values are. -/
theorem storeValues_valueOn (news : List Pair) (b : ClaimBody) (c : Chan) :
    ({ b with pairs := storeValues news b.pairs } : ClaimBody).valueOn c
      = (b.pairs.find? fun q => q.chan == c).map fun q => ((news.find? fun n => n.chan == c).getD q).value := by
  have hchan : ∀ q : Pair, ((news.find? fun n => n.chan == q.chan).getD q).chan = q.chan := fun q => by
    cases hf : news.find? (fun n => n.chan == q.chan) with
    | none => rfl
    | some n => simpa using List.find?_some hf
  have hcomp : ((fun q : Pair => q.chan == c) ∘ fun q => (news.find? fun n => n.chan == q.chan).getD q)
      = fun q => q.chan == c := funext fun q => by simp [hchan]
  rw [ClaimBody.valueOn, storeValues, List.find?_map, hcomp, Option.map_map]
  cases hf : b.pairs.find? (fun q => q.chan == c) with
  | none => rfl
  | some q =>
    have hq : q.chan = c := by simpa using List.find?_some hf
    simp [hq]

theorem ClaimBody.find?_of_mem {b : ClaimBody} {c : Chan} (h : c ∈ b.chans) :
    ∃ q, b.pairs.find? (fun q => q.chan == c) = some q := by
  obtain ⟨q, hq, hc⟩ := List.mem_map.mp h
  exact Option.isSome_iff_exists.mp (List.find?_isSome.mpr ⟨q, hq, by simp [hc]⟩)

theorem storeValues_named {news : List Pair} (h : (news.map Pair.chan).Nodup) {b : ClaimBody} {pr : Pair}
    (hpr : pr ∈ news) (hb : pr.chan ∈ b.chans) :
    ({ b with pairs := storeValues news b.pairs } : ClaimBody).valueOn pr.chan = some pr.value := by
  obtain ⟨q, hq⟩ := b.find?_of_mem hb
  rw [storeValues_valueOn, hq, find?_of_nodup h hpr]
  rfl

theorem storeValues_other {news : List Pair} (b : ClaimBody) {c : Chan} (hc : c ∉ news.map Pair.chan) :
    ({ b with pairs := storeValues news b.pairs } : ClaimBody).valueOn c = b.valueOn c := by
  have hnone : news.find? (fun n => n.chan == c) = none := List.find?_eq_none.mpr fun n hn => by
    simpa using fun he : n.chan = c => hc (he ▸ List.mem_map_of_mem hn)
  rw [storeValues_valueOn, hnone]
  rfl

section StoreAndReport
variable {s : State} {i : RecIdx} {b : ClaimBody} {news : List Pair}

theorem State.storeAndReport_transit (s : State) (i : RecIdx) (b : ClaimBody) (news : List Pair) :
    (s.storeAndReport i b news).transit
      = { s.transit with reports := (s.storeAndReport i b news).transit.reports } := Transit.sendAll_rest _ _

/-- R17: the value reports go to the channels that the record tops. -/
theorem State.storeAndReport_reports (s : State) (i : RecIdx) (b : ClaimBody) (news : List Pair) (c : Chan) :
    (s.storeAndReport i b news).transit.reports.get c = s.transit.reports.get c
      ++ if s.claims.top c = some i then (news.filter fun n => n.chan == c).map fun n => .newValue n.value else [] := by
  rw [State.storeAndReport, Transit.sendAll_reports, List.filter_map, List.map_map, List.filter_filter]
  congr 1
  split
  next htop =>
    refine congrArg (List.map _) (List.filter_congr fun n _ => ?_)
    by_cases hn : n.chan = c <;> simp [hn, htop]
  next htop =>
    refine List.map_eq_nil_iff.mpr (List.filter_eq_nil_iff.mpr fun n _ => ?_)
    by_cases hn : n.chan = c <;> simp [hn, htop]

theorem State.storeAndReport_named (hnodup : (news.map Pair.chan).Nodup) {pr : Pair} (hpr : pr ∈ news) :
    (s.storeAndReport i b news).transit.reports.get pr.chan = s.transit.reports.get pr.chan
      ++ if s.claims.top pr.chan = some i then [.newValue pr.value] else [] := by
  rw [State.storeAndReport_reports, filter_of_nodup hnodup hpr]
  rfl

theorem State.storeAndReport_otherReports {c : Chan} (hc : c ∉ news.map Pair.chan) :
    (s.storeAndReport i b news).transit.reports.get c = s.transit.reports.get c := by
  have hnone : news.filter (fun n => n.chan == c) = [] := List.filter_eq_nil_iff.mpr fun n hn => by
    simpa using fun he : n.chan = c => hc (he ▸ List.mem_map_of_mem hn)
  rw [State.storeAndReport_reports, hnone]
  simp

theorem State.storeAndReport_recs (s : State) (i : RecIdx) (b : ClaimBody) (news : List Pair) (j : RecIdx) :
    (s.storeAndReport i b news).claims.recs.get j = if j = i then { s.claims.recs.get i with
        state := .live { b with pairs := storeValues news b.pairs } } else s.claims.recs.get j :=
  ClaimTable.setState_recs _ _ _ _

end StoreAndReport

/-! ## SET -/

section
variable {s : State} {slot : Slot} {info : SessionInfo} {i : RecIdx} {b : ClaimBody}

/-- R3: the owner's check of its LIVE claim passes, in the state the owner block meets. -/
theorem liveFor_asked {h : WireHandle} (hr : s.claims.resolve h = some i) (hl : s.claims.live? i = some b)
    (ho : b.owner = s.sessions.idOf slot) (info : SessionInfo) :
    (s.asked slot).claims.liveFor h true ((s.asked slot).requesterId (requester slot info)) = .ok (i, b) :=
  ClaimTable.liveFor_ok hr hl fun _ => ho.trans (s.asked_requesterId slot info).symm

theorem setPairRefusal_eq_none {pr : Pair} (hmember : pr.chan ∈ b.chans) (hlimits : s.store.active.withinLimits pr = true) :
    setPairRefusal s b pr = none := by simp [setPairRefusal, hmember, hlimits]

theorem setPairRefusal_eq_some {pr : Pair} (h : pr.chan ∉ b.chans ∨ s.store.active.withinLimits pr = false) :
    setPairRefusal s b pr = some (refuseAt (if pr.chan ∉ b.chans then .notMember else .outOfLimits) pr.chan) := by
  by_cases hmember : pr.chan ∈ b.chans
  · have hlimits := h.resolve_left (not_not_intro hmember)
    simp [setPairRefusal, hmember, hlimits]
  · simp [setPairRefusal, hmember]

theorem ownSet_stored {q : SetParams} (hl : s.claims.liveFor q.handle true (s.requesterId ⟨slot, info⟩) = .ok (i, b))
    (hpairs : ∀ pr ∈ q.pairs, setPairRefusal s b pr = none) :
    ownSet s ⟨slot, info⟩ q = (s.storeAndReport i b q.pairs, okWith []) := by
  have hnone : q.pairs.findSome? (setPairRefusal s b) = none := List.findSome?_eq_none_iff.mpr hpairs
  simp only [ownSet, hl, hnone]

theorem ownSet_refused {q : SetParams} (hl : s.claims.liveFor q.handle true (s.requesterId ⟨slot, info⟩) = .ok (i, b))
    {before after : List Pair} {pr : Pair} {reply : Reply} (hq : q.pairs = before ++ pr :: after)
    (hbefore : ∀ pr' ∈ before, setPairRefusal s b pr' = none) (hpr : setPairRefusal s b pr = some reply) :
    ownSet s ⟨slot, info⟩ q = (s, reply) := by
  have hsome : q.pairs.findSome? (setPairRefusal s b) = some reply := by
    rw [hq, List.findSome?_append, List.findSome?_eq_none_iff.mpr hbefore, List.findSome?_cons, hpr]
    rfl
  simp only [ownSet, hl, hsome]

end

/-- Settles O25: the values stored, the reports of the channels the record tops, and the first pair refused. -/
theorem setStoresValues : Obligations.SetStoresValues := by
  unfold Obligations.SetStoresValues
  intro s p r slot info q i b ha hd hr hl ho
  have hlive := liveFor_asked hr hl ho info
  obtain ⟨-, -, hnodup, -⟩ := decodeSet_ok hd
  refine ⟨fun hpairs => ?_, fun before pr after hq hbefore hpr => ?_⟩
  · have hown := ownSet_stored (s := s.asked slot) hlive fun pr hpr => setPairRefusal_eq_none (hpairs pr hpr).1 (hpairs pr hpr).2
    have hx : exec (.set p) s = .next (((s.asked slot).storeAndReport i b q.pairs).answer p 0x11#8 (okWith [])) :=
      congrArg Host.Outcome.next (State.serve_owned ha hd (by simp) hown)
    refine ⟨_, { b with pairs := storeValues q.pairs b.pairs }, hx, rfl, SessionTable.reload_reloaded ha.2.2.1 rfl, ?_,
      ?_, rfl, storeValues_chans _ _, fun pr hpr => storeValues_named hnodup hpr (hpairs pr hpr).1,
      fun c hc => storeValues_other b hc, fun j hj => ?_, fun pr hpr => State.storeAndReport_named (b := b) hnodup hpr,
      fun c hc => State.storeAndReport_otherReports (b := b) hc⟩
    · exact State.same rfl rfl rfl rfl rfl rfl rfl rfl rfl rfl rfl (State.storeAndReport_transit _ i b _)
    · exact (State.storeAndReport_recs _ i b q.pairs i).trans (if_pos rfl)
    · exact (State.storeAndReport_recs _ i b q.pairs j).trans (if_neg hj)
  · exact State.serve_unchanged ha hd (by simp) (reply := refuseAt _ pr.chan) (ownSet_refused hlive hq
      (fun pr' hmem => setPairRefusal_eq_none (hbefore pr' hmem).1 (hbefore pr' hmem).2) (setPairRefusal_eq_some hpr))

/-! ## SET_IF -/

section
variable {s : State} {slot : Slot} {info : SessionInfo} {i : RecIdx} {b : ClaimBody} {q : SetIfParams}

theorem ownSetIf_refused (hl : s.claims.liveFor q.handle true (s.requesterId ⟨slot, info⟩) = .ok (i, b)) {reply : Reply}
    (hpr : setPairRefusal s b ⟨q.chan, q.value⟩ = some reply) : ownSetIf s ⟨slot, info⟩ q = (s, reply) := by
  simp only [ownSetIf, hl, hpr]

theorem ownSetIf_compared (hl : s.claims.liveFor q.handle true (s.requesterId ⟨slot, info⟩) = .ok (i, b)) {stored : Nat}
    (hpr : setPairRefusal s b ⟨q.chan, q.value⟩ = none) (hv : b.valueOn q.chan = some stored) :
    ownSetIf s ⟨slot, info⟩ q = if stored = q.expected then (s.storeAndReport i b [⟨q.chan, q.value⟩], okWith [])
      else (s, ⟨.mismatch, be16 stored⟩) := by
  simp only [ownSetIf, hl, hpr, hv, Option.getD_some]

theorem ClaimBody.mem_chans_of_valueOn {b : ClaimBody} {c : Chan} {v : Nat} (h : b.valueOn c = some v) : c ∈ b.chans := by
  obtain ⟨q, hq, -⟩ := Option.map_eq_some_iff.mp h
  exact List.mem_map.mpr ⟨q, List.mem_of_find?_eq_some hq, by simpa using List.find?_some hq⟩

end

/-- Settles O26: the checks of SET on the one pair, then the comparison. -/
theorem setIfComparesAndStores : Obligations.SetIfComparesAndStores := by
  unfold Obligations.SetIfComparesAndStores
  intro s p r slot info q i b ha hd hr hl ho refusedWith
  have hlive := liveFor_asked hr hl ho info
  refine ⟨fun hmember => ?_, fun hmember hlimits => ?_, fun stored hlimits hstored => ?_⟩
  · refine State.serve_unchanged ha hd (by simp) (reply := refuseAt .notMember q.chan) (ownSetIf_refused hlive ?_)
    exact (setPairRefusal_eq_some (.inl hmember)).trans (by rw [if_pos hmember])
  · refine State.serve_unchanged ha hd (by simp) (reply := refuseAt .outOfLimits q.chan) (ownSetIf_refused hlive ?_)
    exact (setPairRefusal_eq_some (.inr hlimits)).trans (by rw [if_neg (not_not_intro hmember)])
  · have hmember := ClaimBody.mem_chans_of_valueOn hstored
    have hcompared := ownSetIf_compared (s := s.asked slot) hlive (setPairRefusal_eq_none hmember hlimits) hstored
    refine ⟨fun heq => ?_, fun hne => ?_⟩
    · rw [if_pos heq] at hcompared
      have hx : exec (.setIf p) s
          = .next (((s.asked slot).storeAndReport i b [⟨q.chan, q.value⟩]).answer p 0x12#8 (okWith [])) :=
        congrArg Host.Outcome.next (State.serve_owned ha hd (by simp) hcompared)
      have hnodup : ([⟨q.chan, q.value⟩].map Pair.chan).Nodup := List.nodup_singleton _
      have hother : ∀ c, c ≠ q.chan → c ∉ [(⟨q.chan, q.value⟩ : Pair)].map Pair.chan := fun c hc => by simpa using hc
      refine ⟨_, { b with pairs := storeValues [⟨q.chan, q.value⟩] b.pairs }, hx, rfl,
        SessionTable.reload_reloaded ha.2.2.1 rfl, ?_, ?_, rfl, storeValues_chans _ _,
        storeValues_named (pr := ⟨q.chan, q.value⟩) hnodup List.mem_cons_self hmember,
        fun c hc => ⟨storeValues_other b (hother c hc), State.storeAndReport_otherReports (b := b) (hother c hc)⟩, fun j hj => ?_,
        State.storeAndReport_named (b := b) (pr := ⟨q.chan, q.value⟩) hnodup List.mem_cons_self⟩
      · exact State.same rfl rfl rfl rfl rfl rfl rfl rfl rfl rfl rfl (State.storeAndReport_transit _ i b _)
      · exact (State.storeAndReport_recs _ i b _ i).trans (if_pos rfl)
      · exact (State.storeAndReport_recs _ i b _ j).trans (if_neg hj)
    · rw [if_neg hne] at hcompared
      exact State.serve_unchanged ha hd (by simp) hcompared

/-! ## RENEW -/

theorem be8_toNat (x : Byte) : be8 x.toNat = [x] := by simp [be8]

theorem staleEpoch_eq (b : ClaimBody) : staleEpoch b = ⟨.staleEpoch, [b.epoch]⟩ := by rw [staleEpoch, be8_toNat]

/-- Settles O27, by the comparison of the epochs. -/
theorem renewReloadsLease : Obligations.RenewReloadsLease := by
  unfold Obligations.RenewReloadsLease
  intro s p r slot info q i b ha hd hr hl ho
  have hlive := liveFor_asked hr hl ho info
  have hreloaded := fun (u : State) hu => SessionTable.reload_reloaded (s := s) (t := u) ha.2.2.1 hu
  refine ⟨fun hepoch => ?_, fun hepoch => ?_⟩
  · have hown : ownRenew (s.asked slot) (requester slot info) q
        = ({ s.asked slot with claims := s.claims.setState i (.live (b.renewed q.newLength)) },
           okWith (renewPayload (b.renewed q.newLength))) := by
      simp only [ownRenew, hlive, if_neg (not_not_intro hepoch)]
    refine ⟨_, q.newLength.getD b.leaseLength, congrArg Host.Outcome.next (State.serve_owned ha hd (by simp) hown),
      hreloaded _ rfl, ?_, rfl, ?_, fun j hj => ?_, ?_⟩
    · cases q.newLength <;> rfl
    · exact (s.claims.setState_recs i i _).trans (if_pos rfl)
    · exact (s.claims.setState_recs i j _).trans (if_neg hj)
    · exact answered_of_payload rfl (congrArg (· ++ be16 _ ++ be16 _) (be8_toNat _))
  · have hown : ownRenew (s.asked slot) (requester slot info) q = (s.asked slot, staleEpoch b) := by
      simp only [ownRenew, hlive, if_pos hepoch]
    refine ⟨_, congrArg Host.Outcome.next (State.serve_owned ha hd (by simp) hown), hreloaded _ rfl, rfl, ?_⟩
    exact answered_of_payload rfl (be8_toNat _)

/-! ## TRANSFER -/

section
variable {s : State} {slot : Slot} {info : SessionInfo} {i : RecIdx} {b : ClaimBody} {q : TransferParams}

theorem ownTransfer_stale (hl : s.claims.liveFor q.handle true (s.requesterId ⟨slot, info⟩) = .ok (i, b))
    (he : q.epoch ≠ b.epoch) : ownTransfer s ⟨slot, info⟩ q = (s, staleEpoch b) := by
  simp only [ownTransfer, hl, if_pos he]

theorem ownTransfer_noSession (hl : s.claims.liveFor q.handle true (s.requesterId ⟨slot, info⟩) = .ok (i, b))
    (he : q.epoch = b.epoch) (hn : s.sessions.openNamed q.target = none) :
    ownTransfer s ⟨slot, info⟩ q = (s, refuse .noSession) := by
  simp only [ownTransfer, hl, if_neg (not_not_intro he), hn]

/-- R20 steps 3 to 5: what becomes of a transfer to an OPEN session. -/
theorem ownTransfer_named (hl : s.claims.liveFor q.handle true (s.requesterId ⟨slot, info⟩) = .ok (i, b))
    (he : q.epoch = b.epoch) {k : Slot} {info' : SessionInfo} (hn : s.sessions.openNamed q.target = some (k, info')) :
    ownTransfer s ⟨slot, info⟩ q =
      if k = slot then (s, okWith [])
      else if s.claims.ownedCount (s.sessions.idOf k) ≥ Config.maxOwned then (s, refuse .targetFull)
      else if s.store.active.ceiling info'.port < b.priority then (s, refuse .priorityCeiling)
      else (s.transferRecord i b k, okWith []) := by
  simp only [ownTransfer, hl, if_neg (not_not_intro he), hn]

end

theorem SessionTable.reload_gen (st : SessionTable) (slot k : Slot) :
    ((st.reload slot).recs.get k).gen = (st.recs.get k).gen := by
  have hid := st.reload_idOf slot k
  simp only [SessionTable.idOf, SessionId.mk.injEq, true_and] at hid
  exact hid

theorem SessionTable.reload_named (st : SessionTable) (slot : Slot) (h : WireHandle) : (st.reload slot).named h = st.named h := by
  unfold SessionTable.named
  split
  · rw [st.reload_gen]
  · rfl

theorem SessionTable.openNamed_eq_none {st : SessionTable} {h : WireHandle}
    (hn : ∀ k, st.named h = some k → st.isOpen k = false) : st.openNamed h = none := by
  refine Option.eq_none_iff_forall_ne_some.mpr fun ⟨k, info⟩ hk => ?_
  obtain ⟨hnamed, hinfo⟩ := SessionTable.openNamed_eq_some.mp hk
  have hclosed := hn k hnamed
  rw [SessionTable.isOpen, hinfo] at hclosed
  cases hclosed

theorem SessionTable.reload_info?_self {st : SessionTable} {slot : Slot} {info : SessionInfo} (hi : st.info? slot = some info) :
    (st.reload slot).info? slot = some { info with remaining := info.interval } := by
  rw [SessionTable.info?_eq_some, st.reload_recs slot slot info hi, if_pos rfl]

theorem SessionTable.reload_info?_other {st : SessionTable} {slot k : Slot} {info : SessionInfo}
    (hi : st.info? slot = some info) (hk : k ≠ slot) : (st.reload slot).info? k = st.info? k :=
  SessionTable.info?_congr (by rw [st.reload_recs slot k info hi, if_neg hk])

/-- R65: with one entry at most for a record, removing it and raising another leaves the new one at the tail. -/
theorem addReasons_of_absent {h : ClaimHandle} {why : ReasonSet} {l : List Entry}
    (hnone : ∀ e ∈ l, e.isFor h.index = false) : addReasons h why l = l ++ [.claim h why] := by
  rcases addReasons_spec h why l with ⟨-, he⟩ | ⟨a, g, rs, b, rfl, hg, -, -⟩
  · exact he
  · have hfor := hnone (.claim g rs) (by simp)
    simp [Entry.isFor, hg] at hfor

section
variable {s : State} {i : RecIdx} {b : ClaimBody} {slot k : Slot}

/-- R21, R75: the lists after a transfer from the session in `slot` to that in `k`. -/
theorem State.transferRecord_attention (hlists : listsSound s.claims s.attention) (hl : s.claims.live? i = some b)
    (hslot : b.owner.slot = slot) (hk : k ≠ slot) (j : Slot) : (s.transferRecord i b k).attention.get j =
      if j = slot then (s.attention.get slot).filter (fun e => !e.isFor i)
      else if j = k then s.attention.get k
        ++ [.claim (s.claims.handle i) (reasonsFor i (s.attention.get slot) ||| Reason.adopted.mask)]
      else s.attention.get j := by
  have howner : s.claims.ownerSlot i = some slot := by
    rw [s.claims.ownerSlot_eq, ClaimTable.ownerOf_of_body? (ClaimTable.body?_of_live? hl), ← hslot]
    rfl
  have hnone : ∀ e ∈ s.attention.get k, e.isFor i = false := fun e he => by
    cases e with
    | device _ => rfl
    | claim g rs =>
      refine Bool.eq_false_iff.mpr fun hg => hk ?_
      have hgo := hlists.owner he
      rw [Entry.isFor_claim.mp hg, howner] at hgo
      exact (Option.some.inj hgo).symm
  rw [State.transferRecord, hslot, Table.get_modify, Table.get_modify, Table.get_modify, if_neg hk]
  by_cases hjk : j = k
  · subst hjk
    rw [if_pos rfl, if_neg hk, if_pos rfl]
    exact addReasons_of_absent hnone
  · rw [if_neg hjk, if_neg hjk]
    rfl

end

/-- Settles O29: the checks in order, and the record and the two lists after the transfer. -/
theorem transferHandsOver : Obligations.TransferHandsOver := by
  unfold Obligations.TransferHandsOver
  intro s p r slot info q i b ha hd hr hl ho refusedWith
  have hlive := liveFor_asked hr hl ho info
  have hnamed : ∀ {k info'}, s.sessions.named q.target = some k → (s.sessions.reload slot).info? k = some info' →
      (s.asked slot).sessions.openNamed q.target = some (k, info') := fun hn hi =>
    SessionTable.openNamed_eq_some.mpr ⟨(s.sessions.reload_named slot _).trans hn, hi⟩
  refine ⟨fun he => ?_, fun he hn => ?_, fun he hn => ?_, fun k info' he hn hk hi => ?_⟩
  · exact State.serve_unchanged ha hd (by simp) (reply := ⟨.staleEpoch, [b.epoch]⟩)
      (staleEpoch_eq b ▸ ownTransfer_stale (s := s.asked slot) hlive he)
  · have hown := ownTransfer_named (s := s.asked slot) hlive he (hnamed hn (SessionTable.reload_info?_self ha.2.2.1))
    rw [if_pos rfl] at hown
    exact State.serve_unchanged ha hd (by simp) hown
  · refine State.serve_unchanged ha hd (by simp) (ownTransfer_noSession (s := s.asked slot) hlive he
      (SessionTable.openNamed_eq_none fun k hk => ?_))
    rw [SessionTable.reload_isOpen ha.2.2.1]
    exact hn k ((s.sessions.reload_named slot _).symm.trans hk)
  · have hown := ownTransfer_named (s := s.asked slot) hlive he
      (hnamed hn ((SessionTable.reload_info?_other ha.2.2.1 hk).trans hi))
    rw [if_neg hk, s.sessions.reload_idOf] at hown
    refine ⟨fun hfull => ?_, fun hroom hceiling => ?_, fun hroom hceiling hlists => ?_⟩
    · rw [if_pos (show _ ≥ Config.maxOwned from hfull)] at hown
      exact State.serve_unchanged ha hd (by simp) hown
    · rw [if_neg (show ¬ _ ≥ Config.maxOwned from Nat.not_le.mpr hroom), if_pos hceiling] at hown
      exact State.serve_unchanged ha hd (by simp) hown
    · rw [if_neg (show ¬ _ ≥ Config.maxOwned from Nat.not_le.mpr hroom), if_neg (Nat.not_lt.mpr hceiling)] at hown
      have hslot : b.owner.slot = slot := by rw [ho]; rfl
      have hattention := State.transferRecord_attention (s := s.asked slot) (k := k)
        ((listsInv_iff.mp hlists).2.2.2.2 trivial) hl hslot hk
      refine ⟨_, congrArg Host.Outcome.next (State.serve_owned ha hd (by simp) hown), rfl,
        SessionTable.reload_reloaded ha.2.2.1 rfl, rfl, ?_, fun j hj => ?_, (hattention slot).trans (if_pos rfl),
        (hattention k).trans ((if_neg hk).trans (if_pos rfl)),
        fun j hjs hjk => (hattention j).trans ((if_neg hjs).trans (if_neg hjk))⟩
      · refine (s.claims.setState_recs i i _).trans ((if_pos rfl).trans ?_)
        rw [s.sessions.reload_idOf]
      · exact (s.claims.setState_recs i j _).trans (if_neg hj)

end Sys2Proof.Machine
end

section
/-! PROOFS. RESUME (R127), PROFILE_STAGE and PROFILE_COMMIT (R139, R141, R142), FETCH (R71, R72), and the requests that
read (R28, R29, R60, R138, R173). -/

-- The whole text compiles close to the check's memory limit, so this part starts no threads of its own.
set_option Elab.async false

namespace Sys2Proof.Machine

/-! ## RESUME -/

theorem ownResume_returns {s : State} (who : Requester) (q : Unit)
    (hstate : s.supervisor.state = .holdover ∨ s.supervisor.state = .lapsed) (href : s.supervisor.refPresent = true) :
    ownResume s who q = (s.enterLocked, okWith (resumePayload s.enterLocked)) := by
  rcases hstate with h | h <;> simp [ownResume, h, href]

theorem ownResume_locked {s : State} (who : Requester) (q : Unit) (h : s.supervisor.state = .locked) :
    ownResume s who q = (s, okWith (resumePayload s)) := by simp [ownResume, h]

theorem ownResume_noReference {s : State} (who : Requester) (q : Unit) (h : s.supervisor.state ≠ .locked)
    (href : s.supervisor.refPresent = false) : ownResume s who q = (s, ⟨.noReference, resumePayload s⟩) := by
  cases hs : s.supervisor.state with
  | locked => exact absurd hs h
  | starting | holdover | lapsed => simp [ownResume, hs, href]

/-- R70: a device notice is posted to the sessions that are OPEN, whichever of the two tables is asked. -/
theorem State.deviceNotice_told {s u : State} (k : DeviceKind) (hopen : u.sessions.isOpen = s.sessions.isOpen)
    (hattention : u.attention = s.attention) : toldEverySession s (u.deviceNotice k) k := fun slot => by
  rw [State.deviceNotice_get, hopen, hattention]

theorem State.asked_isOpen {s : State} {p : PortId} {k : RequestCode} {r : List Byte} {slot : Slot} {info : SessionInfo}
    (ha : s.asks p k r slot info) : (s.asked slot).sessions.isOpen = s.sessions.isOpen :=
  funext fun _ => SessionTable.reload_isOpen ha.2.2.1 _

/-- Settles O35, by the supervisor state and reference-present. -/
theorem resumeReturnsToLocked : Obligations.ResumeReturnsToLocked := by
  unfold Obligations.ResumeReturnsToLocked
  intro s p r slot info ha hl
  have hd := decodeNone_of_length hl
  have hreloaded := fun (u : State) hu => SessionTable.reload_reloaded (s := s) (t := u) ha.2.2.1 hu
  refine ⟨fun hstate href => ?_, fun hstate href => ?_, fun hstate href => ?_⟩
  · have hx := State.serve_owned (maintenanceOnly := false) ha hd (by simp) (ownResume_returns (s := s.asked slot) _ () hstate href)
    refine ⟨_, congrArg Host.Outcome.next hx, hreloaded _ rfl, answered_of_payload rfl ?_, rfl,
      State.deviceNotice_told (u := { s.asked slot with supervisor := _ }) .timebase (State.asked_isOpen ha) rfl⟩
    simp [resumePayload, okWith, flagByte, be8, State.enterLocked, State.deviceNotice, SupervisorState.code, href]
  · have hx := State.serve_owned (maintenanceOnly := false) ha hd (by simp) (ownResume_locked (s := s.asked slot) _ () hstate)
    refine ⟨_, congrArg Host.Outcome.next hx, hreloaded _ rfl, answered_of_payload rfl ?_, rfl⟩
    simp [resumePayload, okWith, flagByte, be8, SupervisorState.code, hstate, href]
  · have hx := State.serve_owned (maintenanceOnly := false) ha hd (by simp) (ownResume_noReference (s := s.asked slot) _ () hstate href)
    refine ⟨_, congrArg Host.Outcome.next hx, hreloaded _ rfl, answered_of_payload rfl ?_, rfl⟩
    simp [resumePayload, flagByte, be8, href]

/-! ## PROFILE_STAGE -/

theorem ProfileField.ofId_id (f : ProfileField) : ProfileField.ofId f.id = some f := by cases f <;> rfl

theorem ProfileField.ofId_eq_none {n : Nat} (h : ∀ f, n ≠ ProfileField.id f) : ProfileField.ofId n = none :=
  List.find?_eq_none.mpr fun f _ => by simpa using (h f).symm

/-- R139: a field that cannot take the value is BAD_VALUE. -/
theorem ownProfileStage_badValue {s : State} (who : Requester) {q : ProfileStageParams} {f : ProfileField}
    (hf : q.fieldId = f.id) (h : f = .generation ∨ ¬ (f.range.1 ≤ q.value ∧ q.value ≤ f.range.2)) :
    ownProfileStage s who q = (s, refuse .badValue) := by
  simp only [ownProfileStage, hf, ProfileField.ofId_id, ProfileField.admits_iff]
  by_cases hgen : f = .generation
  · rw [if_pos hgen]
  · rw [if_neg hgen, if_neg (h.resolve_left hgen)]

theorem ownProfileStage_set {s : State} (who : Requester) {q : ProfileStageParams} {f : ProfileField}
    (hf : q.fieldId = f.id) (hgen : f ≠ .generation) (h : f.range.1 ≤ q.value ∧ q.value ≤ f.range.2) :
    ownProfileStage s who q = (s.stage f q.chan q.value, okWith []) := by
  simp only [ownProfileStage, hf, ProfileField.ofId_id, ProfileField.admits_iff, if_neg hgen, if_pos h]

/-- Settles O36, by the field the id names. -/
theorem profileStageSetsField : Obligations.ProfileStageSetsField := by
  unfold Obligations.ProfileStageSetsField
  intro s p r slot info q ha hrole hd refusedBadValue
  refine ⟨fun hnone => ?_, fun f hf => ⟨fun hgen => ?_, fun hrange => ?_, fun hgen hrange => ?_⟩⟩
  · refine State.serve_unchanged ha hd (fun _ => hrole) (reply := refuse .badValue) ?_
    simp only [ownProfileStage, ProfileField.ofId_eq_none hnone]
  · exact State.serve_unchanged ha hd (fun _ => hrole) (ownProfileStage_badValue _ hf (.inl hgen))
  · exact State.serve_unchanged ha hd (fun _ => hrole) (ownProfileStage_badValue _ hf (.inr hrange))
  · have hx := State.serve_owned (maintenanceOnly := true) ha hd (fun _ => hrole)
      (ownProfileStage_set (s := s.asked slot) _ hf hgen hrange)
    exact ⟨_, congrArg Host.Outcome.next hx, rfl, SessionTable.reload_reloaded ha.2.2.1 rfl, rfl,
      s.store.staging.setField_same hgen q.chan q.value,
      fun f' c hf' => s.store.staging.setField_otherField hf' q.chan c q.value,
      fun c hid hc => s.store.staging.setField_otherChan hid hc q.value⟩

/-! ## PROFILE_COMMIT -/

section
variable {s : State} (who : Requester) (q : Unit)

theorem ownProfileCommit_committing (h : s.store.commit ≠ none) : ownProfileCommit s who q = (s, refuse .committing) := by
  simp only [ownProfileCommit, if_pos (Option.isSome_iff_ne_none.mpr h)]

theorem ownProfileCommit_claimsPresent (hn : s.store.commit = none) (h : ∃ i, (s.claims.recs.get i).state ≠ .free) :
    ownProfileCommit s who q = (s, refuse .claimsPresent) := by
  obtain ⟨i, hi⟩ := h
  have hany : (List.finRange 64).any (fun i => !s.claims.isFree i) = true :=
    List.any_eq_true.mpr ⟨i, List.mem_finRange i, by
      simpa using mt ClaimTable.isFree_iff.mp hi⟩
  simp [ownProfileCommit, hn, hany]

theorem none_present (h : ∀ i, (s.claims.recs.get i).state = .free) :
    ¬ (List.finRange 64).any (fun i => !s.claims.isFree i) = true := by
  simpa using fun i => ClaimTable.isFree_iff.mpr (h i)

theorem ownProfileCommit_inconsistent (hn : s.store.commit = none) (h : ∀ i, (s.claims.recs.get i).state = .free) {c : Chan}
    (hfirst : s.store.staging.firstInconsistent = some c) : ownProfileCommit s who q = (s, refuseAt .inconsistent c) := by
  simp only [ownProfileCommit, hn, Option.isSome_none, Bool.false_eq_true, if_false, if_neg (none_present h), hfirst]

theorem ownProfileCommit_accepted (hn : s.store.commit = none) (h : ∀ i, (s.claims.recs.get i).state = .free)
    (hfirst : s.store.staging.firstInconsistent = none) : ownProfileCommit s who q = (s.acceptCommit, okWith []) := by
  simp only [ownProfileCommit, hn, Option.isSome_none, Bool.false_eq_true, if_false, if_neg (none_present h), hfirst]

end

theorem ProfileStore.targetCopy_eq (st : ProfileStore) :
    st.targetCopy = if st.activeCopy = some .copyA then .copyB else .copyA := by
  unfold ProfileStore.targetCopy
  split <;> simp [*]

/-- R141 check 3: the lowest channel out of order. -/
theorem Profile.firstInconsistent_eq_some {prof : Profile} {c : Chan} : prof.firstInconsistent = some c ↔
    ¬ ((prof.chans.get c).low ≤ (prof.chans.get c).rest ∧ (prof.chans.get c).rest ≤ (prof.chans.get c).high)
      ∧ ∀ d, d < c → (prof.chans.get d).low ≤ (prof.chans.get d).rest ∧ (prof.chans.get d).rest ≤ (prof.chans.get d).high := by
  rw [Profile.firstInconsistent, allChans, find?_finRange]
  refine and_congr ?_ (forall₂_congr fun d _ => ?_)
  · simp only [ChannelProfile.consistent, Bool.not_eq_true', decide_eq_false_iff_not]
  · simp [ChannelProfile.consistent]

/-- Settles O37: the checks in order, and the commit in flight. -/
theorem profileCommitStartsCommit : Obligations.ProfileCommitStartsCommit := by
  unfold Obligations.ProfileCommitStartsCommit
  intro s p r slot info ha hrole hl refusedWith inOrder
  have hd := decodeNone_of_length hl
  refine ⟨fun hc => ?_, fun hn hpresent => ?_, fun c hn hfree hc hbefore => ?_, fun hn hfree hall => ?_⟩
  · exact State.serve_unchanged ha hd (fun _ => hrole) (ownProfileCommit_committing (s := s.asked slot) _ () hc)
  · exact State.serve_unchanged ha hd (fun _ => hrole) (ownProfileCommit_claimsPresent (s := s.asked slot) _ () hn hpresent)
  · exact State.serve_unchanged ha hd (fun _ => hrole) (ownProfileCommit_inconsistent (s := s.asked slot) _ () hn hfree
      (Profile.firstInconsistent_eq_some.mpr ⟨hc, hbefore⟩))
  · have hnone : s.store.staging.firstInconsistent = none := Profile.firstInconsistent_eq_none.mpr <| by
      simpa [Profile.consistent, allChans, ChannelProfile.consistent] using hall
    have hown := ownProfileCommit_accepted (s := s.asked slot) (requester slot info) () hn hfree hnone
    refine ⟨_, congrArg Host.Outcome.next (State.serve_owned ha hd (fun _ => hrole) hown), rfl,
      SessionTable.reload_reloaded ha.2.2.1 rfl, ?_⟩
    rw [← ProfileStore.targetCopy_eq]
    rfl

/-! ## FETCH -/

section
variable {s : State} {h : ClaimHandle} {rs : ReasonSet} {b : ClaimBody} {why : RetireReason}

theorem fetchPayload_live (pending : Nat) (hs : (s.claims.recs.get h.index).state = .live b) :
    fetchPayload s pending (.claim h rs) = [0x00#8, BitVec.ofNat 8 pending, h.gen, BitVec.ofNat 8 h.index.val]
      ++ tagBytes b.tag ++ [rs, 0x01#8, BitVec.ofNat 8 (s.claims.standing h.index b.chans).code] := by
  simp [fetchPayload, claimEntryBytes, claimStateBytes, hs, ClaimTable.body?, ClaimState.body?, ClaimHandle.bytes, be8]

theorem fetchPayload_retired (pending : Nat) (hs : (s.claims.recs.get h.index).state = .retired b why) :
    fetchPayload s pending (.claim h rs) = [0x00#8, BitVec.ofNat 8 pending, h.gen, BitVec.ofNat 8 h.index.val]
      ++ tagBytes b.tag ++ [rs, 0x02#8, BitVec.ofNat 8 why.code] := by
  simp [fetchPayload, claimEntryBytes, claimStateBytes, hs, ClaimTable.body?, ClaimState.body?, ClaimHandle.bytes, be8]

theorem ClaimTable.freeFetched_live {t : ClaimTable} (hs : (t.recs.get h.index).state = .live b) :
    t.freeFetched (.claim h rs) = t := by simp only [ClaimTable.freeFetched, hs]

theorem ClaimTable.freeFetched_retired {t : ClaimTable} (hs : (t.recs.get h.index).state = .retired b why) :
    t.freeFetched (.claim h rs) = t.free h.index := by simp only [ClaimTable.freeFetched, hs]

end

/-- R6: a record that is not LIVE is on no stack. -/
theorem ClaimTable.not_mem_holders {t : ClaimTable} {i : RecIdx} {c : Chan} (h : t.stackSound c) (hl : t.live? i = none) :
    i ∉ t.holders.get c := fun hmem => by
  have hlists := (h.2.2 i).mp hmem
  rw [ClaimTable.listsLive, hl] at hlists
  cases hlists

theorem ClaimTable.free_holders_of_not_live {t : ClaimTable} {i : RecIdx} (h : ∀ c, t.stackSound c) (hl : t.live? i = none) :
    (t.free i).holders = t.holders := Table.ext_get fun c => by
  rw [ClaimTable.free_holders, List.erase_of_not_mem (ClaimTable.not_mem_holders (h c) hl)]

/-- Settles O32, by the head entry. -/
theorem fetchTakesHead : Obligations.FetchTakesHead := by
  unfold Obligations.FetchTakesHead
  intro s p r slot info ha hl
  have hd := decodeNone_of_length hl
  refine ⟨fun hempty => ?_, fun e rest hlist => ?_⟩
  · refine State.serve_unchanged ha hd (by simp) (reply := refuse .empty) ?_
    simp only [ownFetch, hempty]
  · have hown : ownFetch (s.asked slot) (requester slot info) () = ({ s.asked slot with
        attention := s.attention.set slot rest, claims := s.claims.freeFetched e },
        okWith (fetchPayload (s.asked slot) rest.length e)) := by
      simp only [ownFetch, hlist]
    refine ⟨_, congrArg Host.Outcome.next (State.serve_owned ha hd (by simp) hown), rfl,
      SessionTable.reload_reloaded ha.2.2.1 rfl, Table.get_set_self _ _ _, fun j hj => Table.get_set_ne _ _ hj,
      fun h rs b he hs => ?_, fun h rs b why he hs hstacks => ?_, fun he => ?_, fun he => ?_, fun he => ?_⟩
    all_goals subst he
    · exact ⟨ClaimTable.freeFetched_live (rs := rs) hs, answered_of_payload rfl (fetchPayload_live (s := s.asked slot) _ hs)⟩
    · have hfree := ClaimTable.freeFetched_retired (rs := rs) hs
      refine ⟨?_, fun j hj => ?_, ?_, answered_of_payload rfl (fetchPayload_retired (s := s.asked slot) _ hs)⟩
      · exact (congrArg (·.recs.get h.index) hfree).trans ((s.claims.free_recs _ _).trans (if_pos rfl))
      · exact (congrArg (·.recs.get j) hfree).trans ((s.claims.free_recs _ _).trans (if_neg hj))
      · exact (congrArg ClaimTable.holders hfree).trans
          (ClaimTable.free_holders_of_not_live hstacks (ClaimTable.live?_of_retired hs))
    · exact ⟨rfl, answered_of_payload rfl rfl⟩
    · exact ⟨rfl, answered_of_payload rfl rfl⟩
    · refine ⟨rfl, answered_of_payload rfl ?_⟩
      simp [okWith, fetchPayload, deviceEntryBytes, be8, flagByte, DeviceKind.code]

/-! ## Requests that read -/

/-- R172: the bytes of a LIVE or RETIRED record. -/
theorem queryClaimPayload_eq {t : ClaimTable} {i : RecIdx} {b : ClaimBody} (hb : t.body? i = some b) :
    queryClaimPayload t i b = [(t.recs.get i).gen, BitVec.ofNat 8 i.val]
      ++ [if t.live? i = some b then 0x01#8 else 0x02#8, b.owner.gen, BitVec.ofNat 8 b.owner.slot.val,
          BitVec.ofNat 8 b.priority]
      ++ tagBytes b.tag ++ be16 b.leaseLength ++ be16 b.remaining
      ++ [b.epoch, match (t.recs.get i).state with
            | .retired _ why => BitVec.ofNat 8 why.code
            | _ => BitVec.ofNat 8 (t.standing i b.chans).code,
          BitVec.ofNat 8 b.pairs.length]
      ++ b.pairs.flatMap fun q => BitVec.ofNat 8 q.chan.val :: be16 q.value := by
  have hpairs : pairBytes = fun q => BitVec.ofNat 8 q.chan.val :: be16 q.value := rfl
  cases hs : (t.recs.get i).state with
  | free => simp [ClaimTable.body?, ClaimState.body?, hs] at hb
  | live b' | retired b' why =>
    obtain rfl : b' = b := by simpa [ClaimTable.body?, ClaimState.body?, hs] using hb
    simp [queryClaimPayload, queryState, hs, ClaimTable.live?, ClaimTable.handle, ClaimHandle.bytes, SessionId.bytes, be8,
      hpairs]

/-- R172: a record on a stack is LIVE, so its entry gives its handle, owner, priority and value. -/
theorem stackEntryBytes_eq {t : ClaimTable} {c : Chan} (h : t.stackSound c) {i : RecIdx} (hi : i ∈ t.holders.get c) :
    stackEntryBytes t c i = match t.live? i with
      | some b => [(t.recs.get i).gen, BitVec.ofNat 8 i.val, b.owner.gen, BitVec.ofNat 8 b.owner.slot.val,
          BitVec.ofNat 8 b.priority] ++ be16 (t.valueOn i c)
      | none => [] := by
  cases hl : t.live? i with
  | none => exact absurd hi (ClaimTable.not_mem_holders h hl)
  | some b =>
    have hb := ClaimTable.body?_of_live? hl
    simp [stackEntryBytes, ClaimTable.valueOn, hb, ClaimTable.handle, ClaimHandle.bytes, SessionId.bytes, be8]

theorem queryChannelPayload_eq {s : State} {c : Chan} (h : s.claims.stackSound c) :
    queryChannelPayload s c = [BitVec.ofNat 8 c.val] ++ be16 (s.outputs.chans.get c).target
      ++ be16 (s.outputs.chans.get c).output
      ++ [if (s.outputs.chans.get c).rampState = .settled then 0x00#8 else 0x01#8,
          if (s.outputs.chans.get c).condition = .normal then 0x00#8 else 0x01#8]
      ++ be16 (s.outputs.chans.get c).low ++ be16 (s.outputs.chans.get c).high
      ++ [BitVec.ofNat 8 (s.monitor.chans.get c).missCount, BitVec.ofNat 8 (s.claims.holders.get c).length]
      ++ (s.claims.holders.get c).flatMap fun i => match s.claims.live? i with
          | some b => [(s.claims.recs.get i).gen, BitVec.ofNat 8 i.val, b.owner.gen, BitVec.ofNat 8 b.owner.slot.val,
              BitVec.ofNat 8 b.priority] ++ be16 (s.claims.valueOn i c)
          | none => [] := by
  have hramp : ∀ x : RampState, BitVec.ofNat 8 x.code = if x = .settled then 0x00#8 else 0x01#8 := fun x => by
    cases x <;> rfl
  have hcondition : ∀ x : Condition, BitVec.ofNat 8 x.code = if x = .normal then 0x00#8 else 0x01#8 := fun x => by
    cases x <;> rfl
  rw [queryChannelPayload, List.flatMap_congr fun i hi => stackEntryBytes_eq h hi]
  simp [be8, hramp, hcondition]

section
variable {s u : State} {p : PortId} {g : DeviceReading} {reads : List DeviceBlock}

/-- R173: every block read. -/
theorem DeviceReading.payload?_full (state : SupervisorState) (present quiesced : Bool) (free sessions : Nat) (st : StoreItems) :
    DeviceReading.payload? ⟨some (state, present), some quiesced, some free, some sessions, some st⟩
      = some ([BitVec.ofNat 8 state.code, if present then 1 else 0, if quiesced then 1 else 0, BitVec.ofNat 8 free,
          BitVec.ofNat 8 sessions] ++ be32 st.generation.toNat
        ++ [if st.defaulted then 1 else 0, if st.committing then 1 else 0, BitVec.ofNat 8 st.outcome.code]) := by
  simp [DeviceReading.payload?, be8, flagByte]

/-- R173: some block not read. -/
theorem DeviceReading.payload?_missing (h : g.supervisor = none ∨ g.quiesced = none ∨ g.freeRecords = none
    ∨ g.openSessions = none ∨ g.store = none) : g.payload? = none := by
  unfold DeviceReading.payload?
  split <;> simp_all

/-- R173: the reads of one step, where they find the items of `s`. -/
theorem State.readDevice_read (hports : u.ports = s.ports) (hitems : readsItems s g (reads.foldl (DeviceReading.read u) g) reads) :
    deviceRead s (u.readDevice p g reads) p g reads := by
  refine ⟨_, hitems, fun state present quiesced free sessions st hfull => ?_, fun hmissing => ?_⟩
  · simp only [State.readDevice, hfull, DeviceReading.payload?_full, State.answer_ports, State.modifyPort_ports, hports,
      Ports.modify_modify]
    rfl
  · simp only [State.readDevice, DeviceReading.payload?_missing hmissing, State.modifyPort_ports, hports]

/-- R173: the items read of a state whose session table has the same OPEN sessions. -/
theorem readsItems_asked {r : List Byte} {slot : Slot} {info : SessionInfo} (ha : s.asks p .queryDevice r slot info) :
    readsItems s g (reads.foldl (DeviceReading.read (s.asked slot)) g) reads := by
  have h := DeviceReading.reads_spec (s.asked slot) g reads
  simp only [readsItems, State.asked_isOpen ha] at h
  exact h

end

/-- Settles O33, command by command. -/
theorem queriesReportAndChangeNothing : Obligations.QueriesReportAndChangeNothing := by
  unfold Obligations.QueriesReportAndChangeNothing
  intro s p r slot info reports
  refine ⟨fun ha hl => ?_, fun h i b ha hd hr hb => ?_, fun c ha hd hstacks => ?_, fun reads ha hl => ?_,
    fun reads g hg => ?_, fun q f ha hd hf => ?_, fun q ha hd hf => ?_⟩
  · have hx := State.serve_owned (maintenanceOnly := false) ha (decodeNone_of_length hl) (by simp)
      (show ownKeepalive (s.asked slot) _ () = _ from rfl)
    refine ⟨_, congrArg Host.Outcome.next hx, rfl, SessionTable.reload_reloaded ha.2.2.1 rfl, answered_of_payload rfl ?_⟩
    simp [okWith, be8, State.asked_requesterId]
  · have hown : ownQueryClaim (s.asked slot) (requester slot info) h
        = (s.asked slot, okWith (queryClaimPayload s.claims i b)) := by
      simp only [ownQueryClaim, hr, hb]
    exact ⟨_, congrArg Host.Outcome.next (State.serve_owned ha hd (by simp) hown), rfl,
      SessionTable.reload_reloaded ha.2.2.1 rfl, answered_of_payload rfl (queryClaimPayload_eq hb)⟩
  · have hx := State.serve_owned (maintenanceOnly := false) ha hd (by simp)
      (show ownQueryChannel (s.asked slot) _ c = _ from rfl)
    exact ⟨_, congrArg Host.Outcome.next hx, rfl, SessionTable.reload_reloaded ha.2.2.1 rfl,
      answered_of_payload rfl (queryChannelPayload_eq (s := s.asked slot) (hstacks c))⟩
  · have hread := State.readDevice_read (s := s) (u := s.asked slot) (p := p) rfl 
      (readsItems_asked (g := .unread) (reads := reads) ha)
    obtain ⟨f, hf, -⟩ := (s.asked slot).readDevice_spec p .unread reads
    rw [hf] at hread
    exact ⟨_, (execQueryDevice_begins ha hl reads).trans (congrArg Host.Outcome.next hf), rfl,
      SessionTable.reload_reloaded ha.2.2.1 rfl, hread⟩
  · have hread := State.readDevice_read (s := s) (u := s) (p := p) rfl (DeviceReading.reads_spec s g reads)
    obtain ⟨f, hf, -⟩ := s.readDevice_spec p g reads
    rw [hf] at hread
    exact ⟨_, (execQueryDevice_goesOn hg reads).trans (congrArg Host.Outcome.next hf), rfl, hread⟩
  · have hown : ownProfileRead (s.asked slot) (requester slot info) q = (s.asked slot, okWith (be8 (Source.code q.source)
        ++ be8 q.fieldId ++ be8 q.chan.val ++ be32 ((s.store.profile q.source).field f q.chan))) := by
      simp only [ownProfileRead, hf, ProfileField.ofId_id]
    refine ⟨_, congrArg Host.Outcome.next (State.serve_owned ha hd (by simp) hown), rfl,
      SessionTable.reload_reloaded ha.2.2.1 rfl, answered_of_payload rfl ?_⟩
    cases q.source <;> rfl
  · refine State.serve_unchanged ha hd (by simp) (reply := refuse .badValue) ?_
    simp only [ownProfileRead, ProfileField.ofId_eq_none hf]

end Sys2Proof.Machine
end

section
/-! PROOFS. The output stage and the readback monitor: CLEAR_FAULT (R96, R97), CONVERSION_COMPLETION (R107 to R109),
CHANNEL_FAULT and FAULT_NOTICE (R26, R95), the reports from the claim table (R86, R87) and QUIESCEn (R84, R92, R93). -/

-- The whole text compiles close to the check's memory limit, so this part starts no threads of its own.
set_option Elab.async false

namespace Sys2Proof.Machine

/-! ## FAULT_NOTICE -/

theorem State.takeFaultNotice_attention (s : State) (c : Chan) (k : Slot) : (s.takeFaultNotice c).attention.get k
    = told s.claims (if c ∈ s.transit.faultNotices then postsOf (s.claims.holders.get c) .fault else []) k
        (s.attention.get k) := by
  unfold State.takeFaultNotice
  split
  · exact Attention.notices_get _ _ _ _ _
  · rfl

theorem State.takeFaultNotice_leaves (s : State) (c : Chan) : ∃ a, s.takeFaultNotice c = { s with
    attention := a, transit := { s.transit with faultNotices := s.transit.faultNotices.erase c } } := by
  unfold State.takeFaultNotice
  split
  next => exact ⟨_, rfl⟩
  next hc => exact ⟨s.attention, by rw [List.erase_of_not_mem hc]⟩

/-- Settles O48. -/
theorem faultNoticeTellsStack : Obligations.FaultNoticeTellsStack := by
  unfold Obligations.FaultNoticeTellsStack
  intro s c hc
  obtain ⟨a, ha⟩ := s.takeFaultNotice_leaves c
  refine ⟨_, rfl, ?_, fun k => ?_⟩
  · rw [ha]
  · rw [State.takeFaultNotice_attention, if_pos hc]

/-! ## CLEAR_FAULT -/

theorem mayClearFault_iff {s : State} {who : Requester} {c : Chan} : mayClearFault s who c = true ↔
    who.info.role = .maintenance
      ∨ ∃ i ∈ s.claims.top c, ∃ b ∈ s.claims.body? i, b.owner = s.requesterId who := by
  cases htop : s.claims.top c with
  | none => simp [mayClearFault, htop]
  | some i => cases hb : s.claims.body? i <;> simp [mayClearFault, htop, ClaimTable.ownedBy, hb]

/-- R97: what the fault cleared leaves, its notices apart. -/
theorem State.clearFault_rest (s : State) (c : Chan) : s.clearFault c = { s with
    outputs := (s.changeChannel c (Channel.clearFault · s.outputs.quiesced)).outputs
    monitor := ({ s with monitor := s.monitor.clearMisses c }.changeChannel c (Channel.clearFault · s.outputs.quiesced)).monitor
    attention := (s.clearFault c).attention
    transit := { s.transit with faultNotices := s.transit.faultNotices.erase c } } := by
  obtain ⟨a, ha⟩ := ({ s with monitor := s.monitor.clearMisses c }.changeChannel c
    (Channel.clearFault · s.outputs.quiesced)).takeFaultNotice_leaves c
  rw [State.clearFault, ha]
  rfl

theorem State.clearFault_attention (s : State) (c : Chan) (k : Slot) : (s.clearFault c).attention.get k = told s.claims
    ((if c ∈ s.transit.faultNotices then postsOf (s.claims.holders.get c) .fault else [])
      ++ postsOf (s.claims.holders.get c) .faultCleared) k (s.attention.get k) := by
  rw [told_append, State.clearFault, State.notices, Attention.notices_get, State.takeFaultNotice_attention,
    State.takeFaultNotice_claims]
  rfl

theorem State.clearFault_monitor (s : State) (c : Chan) : (s.clearFault c).monitor
    = ({ s with monitor := s.monitor.clearMisses c }.changeChannel c (Channel.clearFault · s.outputs.quiesced)).monitor := by
  rw [State.clearFault_rest]

theorem State.clearFault_channel (s : State) (c d : Chan) : (s.clearFault c).outputs.chans.get d
    = if d = c then (s.outputs.chans.get d).clearFault s.outputs.quiesced else s.outputs.chans.get d := by
  rw [State.clearFault_rest]
  exact s.changeChannel_get _ c d

theorem State.clearFault_monitorChannel (s : State) (c d : Chan) : (s.clearFault c).monitor.chans.get d
    = if d = c then { s.monitor.chans.get c with missCount := 0 } else s.monitor.chans.get d := by
  have hchans := (State.changeChannel_disturbs { s with monitor := s.monitor.clearMisses c } c
    (Channel.clearFault · s.outputs.quiesced)).2.1
  rw [State.clearFault_monitor, hchans]
  exact Table.get_modify _ _ _ _

theorem Channel.clearFault_spec (ch : Channel) (quiesced : Bool) :
    ch.clearFault quiesced = { ch with condition := .normal, target := (ch.clearFault quiesced).target
                                       output := (ch.clearFault quiesced).output
                                       rampState := (ch.clearFault quiesced).rampState }
      ∧ movedTo ch (ch.clearFault quiesced) (if quiesced then ch.rest else ch.topValue.getD ch.rest) := by
  have hmoved := Channel.retarget_movedTo { ch with condition := .normal } quiesced
  simp only [Channel.wanted, or_false, reduceCtorEq] at hmoved
  exact ⟨Channel.retarget_rest { ch with condition := .normal } quiesced, hmoved⟩

/-- Settles O34: the two checks, and what the fault cleared leaves. -/
theorem clearFaultRestoresChannel : Obligations.ClearFaultRestoresChannel := by
  unfold Obligations.ClearFaultRestoresChannel
  intro s p r slot info c ha hd mayClear refusedWith
  have hmay : mayClearFault (s.asked slot) (requester slot info) c = true ↔ mayClear := by
    rw [mayClearFault_iff, State.asked_requesterId]
  refine ⟨fun hnot => ?_, fun hmayClear hn => ?_, fun hmayClear hf => ?_⟩
  · refine State.serve_unchanged ha hd (by simp) (reply := refuse .notPermitted) ?_
    rw [ownClearFault, if_pos (mt hmay.mp hnot)]
  · refine State.serve_unchanged ha hd (by simp) (reply := refuse .notFaulted) ?_
    rw [ownClearFault, if_neg (not_not_intro (hmay.mpr hmayClear)), if_pos hn]
  · have hown : ownClearFault (s.asked slot) (requester slot info) c = ((s.asked slot).clearFault c, okWith []) := by
      rw [ownClearFault, if_neg (not_not_intro (hmay.mpr hmayClear)), if_neg (by simp [hf])]
    have hrest := (s.asked slot).clearFault_rest c
    have hchannel := (s.asked slot).clearFault_channel c
    have hmonitorChannel := (s.asked slot).clearFault_monitorChannel c
    obtain ⟨hscan, -, hconverting, hidle⟩ := State.changeChannel_disturbs { s.asked slot with
      monitor := s.monitor.clearMisses c } c (Channel.clearFault · s.outputs.quiesced)
    have hmonitor := (s.asked slot).clearFault_monitor c
    refine ⟨_, congrArg Host.Outcome.next (State.serve_owned ha hd (by simp) hown), answered_of_payload ((s.asked slot).clearFault_ports c) rfl,
      SessionTable.reload_reloaded ha.2.2.1 ((s.asked slot).clearFault_sessions c), ?_, fun d hd' =>
        ⟨(hchannel d).trans (if_neg hd'), (hmonitorChannel d).trans (if_neg hd')⟩, (hmonitorChannel c).trans (if_pos rfl), ?_,
      ?_, fun k => (s.asked slot).clearFault_attention c k⟩
    · rw [hrest]
      rfl
    · have hspec := Channel.clearFault_spec (s.outputs.chans.get c) s.outputs.quiesced
      rw [← (hchannel c).trans (if_pos rfl)] at hspec
      exact hspec
    · rw [← hmonitor] at hscan hconverting hidle
      refine ⟨hscan, rfl, fun cv hcv => ?_, hidle⟩
      rw [hrest]
      exact (hrest ▸ hconverting) cv hcv

/-! ## CONVERSION_COMPLETION -/

theorem reading_eq {input : Int} {value : Nat} (h : input < 0 ∧ value = 0
    ∨ (0 ≤ input ∧ input ≤ 1023 ∧ (value : Int) = input) ∨ 1023 < input ∧ value = 1023) : reading input = value := by
  rw [reading]
  omega

theorem distance_le_iff {a b n : Nat} : distance a b ≤ n ↔ a ≤ b + n ∧ b ≤ a + n := by
  rw [distance]
  omega

theorem State.conversionDisturbed_iff {s : State} {cv : Conversion} : s.conversionDisturbed cv = true ↔
    cv.disturbed = true ∨ (s.outputs.chans.get cv.chan).outputState = .disabled
      ∨ (s.outputs.chans.get cv.chan).condition = .faulted ∨ s.outputs.quiesced = true := by
  simp [State.conversionDisturbed, or_assoc]

section
variable {s : State} {cv : Conversion}

theorem State.evaluate_discarded (h : s.conversionDisturbed cv = true) (input : Int) : s.evaluate cv input = s :=
  if_pos h

/-- R108, R109: a reading that is not discarded, judged by whether it lies within the tolerance. -/
theorem State.evaluate_judged (h : ¬ s.conversionDisturbed cv = true) {input : Int} {within : Bool}
    (hw : within = true ↔ distance (reading input) cv.outputAtStart ≤ (s.monitor.chans.get cv.chan).tolerance) :
    s.evaluate cv input = { s with
      monitor := { s.monitor with
        chans := s.monitor.chans.set cv.chan ((s.monitor.chans.get cv.chan).judged within) }
      transit := { s.transit with
        faultReports := if (s.monitor.chans.get cv.chan).reachesLimit within then s.transit.faultReports ++ [cv.chan]
                        else s.transit.faultReports } } := by
  obtain rfl : within = decide (distance (reading input) cv.outputAtStart ≤ (s.monitor.chans.get cv.chan).tolerance) :=
    Bool.eq_iff_iff.mpr (hw.trans decide_eq_true_iff.symm)
  exact if_neg h

/-- R108: the evaluation leaves alone all but the miss count of the channel converted and the fault reports. -/
theorem State.evaluate_rest (s : State) (cv : Conversion) (input : Int) : s.evaluate cv input = { s with
    monitor := { s.monitor with chans := (s.evaluate cv input).monitor.chans }
    transit := { s.transit with faultReports := (s.evaluate cv input).transit.faultReports } } := by
  by_cases h : s.conversionDisturbed cv = true
  · rw [State.evaluate_discarded h]
  · rw [State.evaluate_judged h decide_eq_true_iff]

end

theorem State.search_rest (s : State) : s.search = { s with monitor := s.search.monitor } := by
  unfold State.search
  split <;> rfl

/-- R103: a search changes nothing by which a channel is eligible. -/
theorem State.search_eligible (s : State) (c : Chan) : s.search.eligible c = s.eligible c := by
  rw [State.eligible, State.search_chans, State.search_outputs, State.search_transit, State.eligible]

/-- R104: the monitor after a search is what a search of the state it leaves would find from the same position. -/
theorem State.search_foundAfter (s : State) : foundBySearch s.search s.monitor.scanPos s.search.monitor :=
  foundBySearch_congr s.search_found (fun c => (s.search_eligible c).symm) fun c => by rw [State.search_outputs]

theorem MonitorChannel.judged_rest (mc : MonitorChannel) (within : Bool) :
    mc.judged within = { mc with missCount := (mc.judged within).missCount } := by
  unfold MonitorChannel.judged
  split
  · rfl
  · split <;> rfl

theorem State.exec_conversionCompletion {s : State} {cv : Conversion} (h : s.monitor.state = .converting cv) (input : Int) :
    exec (.conversionCompletion input) s = .next (s.evaluate cv input).search := by
  simp only [exec, execConversionCompletion, h]

/-- Settles O46: the reading judged, then the search. -/
theorem conversionCompletionJudgesReading : Obligations.ConversionCompletionJudgesReading := by
  unfold Obligations.ConversionCompletionJudgesReading
  intro s cv input value hcv hvalue mc discarded within
  have hdiscarded : s.conversionDisturbed cv = true ↔ discarded := State.conversionDisturbed_iff
  have hwithin : within ↔ distance (reading input) cv.outputAtStart ≤ mc.tolerance := by
    rw [reading_eq hvalue, distance_le_iff]
  have hrest := s.evaluate_rest cv input
  have hsearch := (s.evaluate cv input).search_rest
  have hchans : ∀ c, (s.evaluate cv input).search.monitor.chans.get c = (s.evaluate cv input).monitor.chans.get c :=
    fun c => by rw [State.search_chans]
  have hfound := (s.evaluate cv input).search_foundAfter
  rw [show (s.evaluate cv input).monitor.scanPos = s.monitor.scanPos by rw [hrest]] at hfound
  by_cases h : s.conversionDisturbed cv = true
  · have hno : ∀ {P : Prop}, ¬ discarded → P := fun hn => absurd (hdiscarded.mp h) hn
    have hsame := State.evaluate_discarded h input
    rw [hsame] at hchans
    refine ⟨_, State.exec_conversionCompletion hcv input, ?_, fun c _ => ?_, ?_, fun _ => ⟨?_, ?_⟩, fun hn => hno hn,
      fun hn => hno hn, fun hn => hno hn, hfound⟩
    · rw [hsearch, hrest]
    · rw [hsame, hchans]
    · rw [hsame, hchans]
    · rw [hsame, hchans]
    · rw [hsame, State.search_transit]
  · obtain ⟨w, hw⟩ : ∃ w : Bool, w = true ↔ within := ⟨_, decide_eq_true_iff.trans hwithin.symm⟩
    have hjudged := State.evaluate_judged h (hw.trans hwithin)
    have hself : (s.evaluate cv input).search.monitor.chans.get cv.chan = mc.judged w := by
      rw [hchans, hjudged]
      exact Table.get_set_self _ _ _
    have hfaults : (s.evaluate cv input).search.transit.faultReports
        = if mc.reachesLimit w then s.transit.faultReports ++ [cv.chan] else s.transit.faultReports := by
      rw [State.search_transit, hjudged]
    have hmiss : ¬ within → w = false := fun hn => Bool.eq_false_iff.mpr (mt hw.mp hn)
    refine ⟨_, State.exec_conversionCompletion hcv input, ?_, fun c hc => ?_, ?_, fun hd => absurd (hdiscarded.mpr hd) h,
      fun _ hin => ?_, fun _ hout hlimit => ?_, fun _ hout hlimit => ?_, hfound⟩
    · rw [hsearch, hrest]
    · rw [hchans, hjudged]
      exact Table.get_set_ne _ _ hc
    · rw [hself]
      exact mc.judged_rest w
    · rw [hself, hfaults, hw.mpr hin]
      exact ⟨rfl, rfl⟩
    · rw [hself, hfaults, hmiss hout]
      simp [MonitorChannel.judged, MonitorChannel.reachesLimit, hlimit]
    · rw [hself, hfaults, hmiss hout]
      simp [MonitorChannel.judged, MonitorChannel.reachesLimit, hlimit]

/-! ## CHANNEL_FAULT -/

theorem State.takeFaultReport_get (s : State) (c d : Chan) : (s.takeFaultReport c).outputs.chans.get d
    = if d = c then Channel.whenEnabled Channel.takeFault (s.outputs.chans.get d) else s.outputs.chans.get d :=
  State.changeChannel_get _ _ _ _

/-- Settles O47, by the condition of the channel. -/
theorem channelFaultStepsToRest : Obligations.ChannelFaultStepsToRest := by
  unfold Obligations.ChannelFaultStepsToRest
  intro s c hc henabled
  have hself : (s.takeFaultReport c).outputs.chans.get c = (s.outputs.chans.get c).takeFault := by
    rw [s.takeFaultReport_get c c, if_pos rfl, Channel.whenEnabled_of_enabled henabled]
  refine ⟨_, if_pos hc, rfl, fun d hd => (s.takeFaultReport_get c d).trans (if_neg hd),
    State.changeChannel_disturbs _ _ _, fun hcondition => ⟨hself.trans ?_, if_pos ?_⟩,
    fun hcondition => ⟨hself.trans ?_, if_neg ?_⟩⟩
  · simp only [Channel.takeFault, hcondition, Channel.stepToRest]
  · simp [Channel.canFault, henabled, hcondition]
  · simp only [Channel.takeFault, hcondition]
  · simp [Channel.canFault, hcondition]

/-! ## Reports from the claim table -/

theorem State.takeReport_get (s : State) (c d : Chan) (r : Report) : (s.takeReport c r).outputs.chans.get d
    = if d = c then Channel.whenEnabled (·.takeReport r s.outputs.quiesced) (s.outputs.chans.get d)
      else s.outputs.chans.get d :=
  State.changeChannel_get _ _ _ _

/-- R86, R87: the top value set and the target recomputed. -/
theorem Channel.takeReport_spec (ch : Channel) (r : Report) (quiesced : Bool) :
    ch.takeReport r quiesced = { ch with topValue := r.topValue, target := (ch.takeReport r quiesced).target
                                         output := (ch.takeReport r quiesced).output
                                         rampState := (ch.takeReport r quiesced).rampState }
      ∧ movedTo ch (ch.takeReport r quiesced)
          (if quiesced = true ∨ ch.condition = .faulted then ch.rest else r.topValue.getD ch.rest) :=
  ⟨Channel.retarget_rest { ch with topValue := r.topValue } quiesced,
    Channel.retarget_movedTo { ch with topValue := r.topValue } quiesced⟩

/-- Settles O49, by the kind of the oldest report. -/
theorem reportsSetTopValueAndTarget : Obligations.ReportsSetTopValueAndTarget := by
  unfold Obligations.ReportsSetTopValueAndTarget
  intro s c report rest hreports henabled command topValue
  have hx : exec command s = .next (s.takeReport c report) := by
    cases report <;> simp [command, exec, execTopReport, execValueReport, hreports]
  have htop : topValue = report.topValue := by cases report <;> rfl
  have hself : (s.takeReport c report).outputs.chans.get c
      = (s.outputs.chans.get c).takeReport report s.outputs.quiesced := by
    rw [s.takeReport_get c c, if_pos rfl, Channel.whenEnabled_of_enabled henabled]
  have hspec := (s.outputs.chans.get c).takeReport_spec report s.outputs.quiesced
  rw [← hself, ← htop] at hspec
  refine ⟨_, hx, rfl, ?_, fun d hd => ⟨?_, (s.takeReport_get c d report).trans (if_neg hd)⟩,
    State.changeChannel_disturbs _ _ _, hspec⟩
  · exact (Table.get_modify_self _ _ _).trans (congrArg List.tail hreports)
  · exact Table.get_modify_ne _ _ hd

/-! ## QUIESCEn -/

theorem Monitor.disturb_spec (m : Monitor) : m.disturb.scanPos = m.scanPos ∧ m.disturb.chans = m.chans
    ∧ (∀ cv, m.state = .converting cv → m.disturb.state = .converting { cv with disturbed := true })
    ∧ ((∀ cv, m.state ≠ .converting cv) → m.disturb.state = m.state) := by
  cases hs : m.state with
  | converting cv =>
    have hd : m.disturb = { m with state := .converting { cv with disturbed := true } } := by simp only [Monitor.disturb, hs]
    rw [hd]
    exact ⟨rfl, rfl, fun cv' hcv => by obtain rfl := MonitorState.converting.inj hcv; rfl, fun hn => absurd rfl (hn cv)⟩
  | stopped | waiting =>
    have hd : m.disturb = m := by simp only [Monitor.disturb, hs]
    rw [hd]
    exact ⟨rfl, rfl, fun cv hcv => (by cases hcv), fun _ => hs⟩

/-- R92: a conversion disturbed by a change of output, then disturbed by the fall, is the conversion disturbed. -/
theorem Monitor.disturb_noteOutputs (m : Monitor) (before after : Table 48 Channel) :
    (m.noteOutputs before after).disturb = m.disturb := by
  cases hs : m.state with
  | converting cv =>
    by_cases heq : (after.get cv.chan).output = (before.get cv.chan).output <;>
      simp [Monitor.noteOutputs, Monitor.disturb, hs, heq]
  | stopped | waiting => simp [Monitor.noteOutputs, hs]

theorem exec_quiescenFall_idle {s : State} (hpin : s.quiescenLow = true) : exec .quiescenFall s = .next s := by
  simp [exec, execQuiescenFall, hpin]

theorem exec_quiescenRise_idle {s : State} (hpin : s.quiescenLow = false) : exec .quiescenRise s = .next s := by
  simp [exec, execQuiescenRise, hpin]

theorem State.withPin {s : State} {level : Bool} (h : s.quiescenLow = level) : s = { s with quiescenLow := level } := by
  rw [← h]

theorem exec_quiescenFall_taken {s : State} (hload : s.store.loadInProgress = false) (hpin : s.quiescenLow = false) :
    exec .quiescenFall s = .next { s with quiescenLow := true }.quiesce := by
  simp [exec, execQuiescenFall, hload, hpin]

theorem exec_quiescenRise_taken {s : State} (hload : s.store.loadInProgress = false) (hpin : s.quiescenLow = true) :
    exec .quiescenRise s = .next { s with quiescenLow := false }.unquiesce := by
  simp [exec, execQuiescenRise, hload, hpin]

/-- Settles O50: before the load ends the pin alone; a pin already there nothing; else the change as the output stage
takes it. -/
theorem quiesceFollowsPin : Obligations.QuiesceFollowsPin := by
  unfold Obligations.QuiesceFollowsPin
  refine ⟨fun s hload => ⟨?_, ?_⟩, fun s => ⟨fun hpin => ?_, fun hpin => ?_⟩, fun s hload => ⟨fun hpin => ?_, fun hpin => ?_⟩⟩
  · by_cases hpin : s.quiescenLow = true
    · exact (exec_quiescenFall_idle hpin).trans (congrArg Host.Outcome.next (State.withPin hpin))
    · simp [exec, execQuiescenFall, hload, hpin]
  · by_cases hpin : s.quiescenLow = true
    · simp [exec, execQuiescenRise, hload, hpin]
    · have hlow := Bool.eq_false_iff.mpr hpin
      exact (exec_quiescenRise_idle hlow).trans (congrArg Host.Outcome.next (State.withPin hlow))
  · exact exec_quiescenFall_idle hpin
  · exact exec_quiescenRise_idle hpin
  · obtain ⟨hscan, hchans, hconverting, hidle⟩ := s.monitor.disturb_spec
    have hmonitor : ({ s with quiescenLow := true }.quiesce).monitor = s.monitor.disturb := Monitor.disturb_noteOutputs _ _ _
    refine ⟨_, exec_quiescenFall_taken hload hpin, rfl, fun c => ?_, ?_, ?_, ?_, ?_, State.deviceNotice_told .quiesce rfl rfl⟩
    · have hget := s.changeChannels_get (fun _ => Channel.whenEnabled Channel.stepToRest) c
      exact ⟨fun h => hget.trans (Channel.whenEnabled_of_disabled h _), fun h => hget.trans (Channel.whenEnabled_of_enabled h _)⟩
    all_goals rw [hmonitor]
    · exact hscan
    · exact hchans
    · exact hconverting
    · exact hidle
  · refine ⟨_, exec_quiescenRise_taken hload hpin, rfl, State.changeChannels_disturbs _ _, fun c => ?_,
      State.deviceNotice_told .quiesce rfl rfl⟩
    have hget := s.changeChannels_get (fun _ => Channel.whenEnabled (Channel.retarget · false)) c
    refine ⟨fun h => hget.trans (Channel.whenEnabled_of_disabled h _), fun h => ?_⟩
    have hself := hget.trans (Channel.whenEnabled_of_enabled h _)
    have hspec := And.intro (Channel.retarget_rest (s.outputs.chans.get c) false)
      (Channel.retarget_movedTo (s.outputs.chans.get c) false)
    simp only [Channel.wanted, false_or, reduceCtorEq] at hspec
    rw [← hself] at hspec
    exact hspec

end Sys2Proof.Machine
end

section
/-! PROOFS. The claim requests and the session end that move tops: RELEASE (R19, R74), REVOKE (R22, R23), CLAIM granted
(R13 to R15) and CLOSE (R62, R64). -/

-- The whole text compiles close to the check's memory limit, so this part starts no threads of its own.
set_option Elab.async false

namespace Sys2Proof.Machine

/-! ## Changed tops handed on -/

/-- R9: what a report of each changed top among `cs` leaves, where no other top changed. -/
theorem topsReported_of_handTops {s t u : State} {cs : List Chan} (hreports : t.transit.reports
    = (u.handTops s.claims cs).transit.reports) (hclaims : t.claims = u.claims) (hbefore : u.transit = s.transit)
    (hnodup : cs.Nodup) (hcs : ∀ c, c ∉ cs → u.claims.top c = s.claims.top c) : topsReported s t := fun c => by
  rw [hreports, hclaims, State.handTops_reports _ _ _ hnodup, hbefore]
  congr 1
  by_cases hsame : u.claims.top c = s.claims.top c
  · rw [if_neg fun hc => hc.2 hsame, if_pos hsame]
  · rw [if_pos ⟨Classical.not_not.mp (mt (hcs c) hsame), hsame⟩, if_neg hsame, ClaimTable.topReport]
    cases u.claims.top c <;> rfl

theorem State.handTops_transit (s : State) (before : ClaimTable) (cs : List Chan) : (s.handTops before cs).transit
    = { s.transit with reports := (s.handTops before cs).transit.reports } := Transit.sendAll_rest _ _

/-- R10: RESUMED for each new top among `cs`. -/
theorem State.handTops_attention (s : State) (before : ClaimTable) (cs : List Chan) (k : Slot) :
    (s.handTops before cs).attention.get k
      = told s.claims (postsOf ((s.claims.changedTops before cs).filterMap s.claims.top) .resumed) k (s.attention.get k) :=
  Attention.notices_get _ _ _ _ _

/-- R67: notices of a claim table that names the same owners and handles for the records posted. -/
theorem told_congr_on {t u : ClaimTable} {ps : List Post} (h : ∀ q ∈ ps, t.ownerSlot q.1 = u.ownerSlot q.1
    ∧ t.handle q.1 = u.handle q.1) (k : Slot) (l : List Entry) : told t ps k l = told u ps k l := by
  induction ps generalizing l with
  | nil => rfl
  | cons q ps ih =>
    obtain ⟨howner, hhandle⟩ := h q List.mem_cons_self
    have hrest := fun l => ih (fun q' hq => h q' (List.mem_cons_of_mem _ hq)) l
    have hone : told t [q] k l = told u [q] k l := by
      have hposted : posted t l q = posted u l q := by simp only [posted, hhandle]
      simp only [told, List.filter_cons, howner]
      split
      · exact hposted
      · rfl
    rw [← List.singleton_append, told_append, told_append, hone, hrest]

theorem ClaimTable.ownerSlot_of_ownerOf {t u : ClaimTable} {i : RecIdx} (h : t.ownerOf i = u.ownerOf i) :
    t.ownerSlot i = u.ownerSlot i := by rw [t.ownerSlot_eq, u.ownerSlot_eq, h]

/-- R69: notices of the table before a retirement are those of the table after it. -/
theorem told_retireAll (t : ClaimTable) (why : RetireReason) (is : List RecIdx) (ps : List Post) (k : Slot) (l : List Entry) :
    told t ps k l = told (is.foldl (ClaimTable.retire why) t) ps k l :=
  told_congr (fun i => ClaimTable.ownerSlot_of_ownerOf (t.retireAll_ownerOf why is i).symm)
    (fun i => (t.retireAll_handle why is i).symm) ps k l

/-! ## Stacks without a record -/

section
variable {t : ClaimTable} {c : Chan} {i : RecIdx} {b : ClaimBody}

theorem ClaimTable.stackSound.erase_eq (h : t.stackSound c) (i : RecIdx) :
    (t.holders.get c).erase i = (t.holders.get c).filter (· != i) := List.Nodup.erase_eq_filter (nodup h) i

/-- R5: a record is on no stack of a channel it does not list. -/
theorem ClaimTable.not_mem_of_not_listed (h : t.stackSound c) (hb : t.body? i = some b) (hc : c ∉ b.chans) :
    i ∉ t.holders.get c := fun hmem => by
  have hlists := (h.2.2 i).mp hmem
  cases hl : t.live? i with
  | none => exact Bool.false_ne_true ((ClaimTable.listsLive_of_not_live hl c).symm.trans hlists)
  | some b' =>
    obtain rfl : b = b' := Option.some.inj (hb.symm.trans (ClaimTable.body?_of_live? hl))
    rw [ClaimTable.listsLive_of_live? hl] at hlists
    exact hc hlists

theorem ClaimTable.top_of_erased {u : ClaimTable} (h : t.stackSound c) (hb : t.body? i = some b) (hc : c ∉ b.chans)
    (hu : u.holders.get c = (t.holders.get c).erase i) : u.top c = t.top c := by
  rw [ClaimTable.top, hu, List.erase_of_not_mem (ClaimTable.not_mem_of_not_listed h hb hc), ClaimTable.top]

end

/-! ## RELEASE -/

/-- Settles O28: the record freed, its entry removed, the tops of its channels handed on. -/
theorem releaseFreesRecord : Obligations.ReleaseFreesRecord := by
  unfold Obligations.ReleaseFreesRecord
  intro s p r slot info h i b ha hd hstacks hleases hr hb ho
  have hown : ownRelease (s.asked slot) (requester slot info) h = ((s.asked slot).releaseRecord i b, okWith []) := by
    have howned := ClaimTable.ownedFor_ok hr hb (ho.trans (s.asked_requesterId slot info).symm)
    simp only [ownRelease, howned]
  have hslot : b.owner.slot = slot := by rw [ho]; rfl
  have hholders : ∀ c, (s.claims.free i).holders.get c = (s.claims.holders.get c).erase i := fun c => s.claims.free_holders i c
  refine ⟨_, congrArg Host.Outcome.next (State.serve_owned ha hd (by simp) hown), rfl,
    SessionTable.reload_reloaded ha.2.2.1 rfl, ?_, (s.claims.free_recs i i).trans (if_pos rfl),
    fun j hj => (s.claims.free_recs i j).trans (if_neg hj), fun c => (hholders c).trans ((hstacks c).erase_eq i),
    topsReported_of_handTops rfl rfl rfl (hleases.1 i b hb).2.2.2.1 fun c hc =>
      ClaimTable.top_of_erased (hstacks c) hb hc (hholders c), fun k => ?_⟩
  · exact State.same rfl rfl rfl rfl rfl rfl rfl rfl rfl rfl rfl (State.handTops_transit _ _ _)
  · refine (State.handTops_attention _ _ _ k).trans (congrArg (told _ _ k) ?_)
    rw [hslot]
    refine (Table.get_modify _ _ _ _).trans ?_
    by_cases hk : k = slot
    · rw [if_pos hk, if_pos hk, hk]
      rfl
    · rw [if_neg hk, if_neg hk]

/-! ## REVOKE -/

theorem ClaimTable.retire_holders_of_live {t : ClaimTable} {i : RecIdx} {b : ClaimBody} (hl : t.live? i = some b)
    (why : RetireReason) (c : Chan) : (t.retire why i).holders.get c = (t.holders.get c).erase i := by
  simp [ClaimTable.retire_holders, hl]

section
variable {s : State} {i : RecIdx} {b : ClaimBody}

theorem State.retireOne_transit (s : State) (i : RecIdx) (why : RetireReason) :
    (s.retireOne i why).transit = { s.transit with reports := (s.retireOne i why).transit.reports } :=
  State.handTops_transit _ _ _

/-- R23: the notice of the retirement, then RESUMED for each new top. -/
theorem State.retireOne_attention (hb : s.claims.body? i = some b) (why : RetireReason) (k : Slot) :
    (s.retireOne i why).attention.get k = told (s.retireOne i why).claims
      ((i, why.reason) :: resumedPosts s (s.retireOne i why) b.chans) k (s.attention.get k) := by
  have hretired : (s.retireAll [i] why).attention.get k
      = told (s.retireAll [i] why).claims [(i, why.reason)] k (s.attention.get k) :=
    (Attention.notices_get s.claims _ [i] _ k).trans (told_retireAll s.claims why [i] _ k _)
  rw [← List.singleton_append, told_append]
  refine (State.handTops_attention _ _ _ k).trans ?_
  rw [hretired, hb]
  rfl

theorem State.retireOne_reported (hb : s.claims.body? i = some b) (why : RetireReason) (hstacks : StacksInv s)
    (hnodup : b.chans.Nodup) (hlive : s.claims.live? i = some b) : topsReported s (s.retireOne i why) := by
  refine topsReported_of_handTops (u := s.retireAll [i] why) (cs := b.chans) ?_ rfl rfl hnodup fun c hc =>
    ClaimTable.top_of_erased (hstacks c) hb hc (ClaimTable.retire_holders_of_live hlive why c)
  rw [State.retireOne, hb]
  rfl

end

/-- Settles O30: the retirement of the one record. -/
theorem revokeRetiresRecord : Obligations.RevokeRetiresRecord := by
  unfold Obligations.RevokeRetiresRecord
  intro s p r slot info h i b ha hrole hd hstacks hleases hr hl
  have hb := ClaimTable.body?_of_live? hl
  have hown : ownRevoke (s.asked slot) (requester slot info) h = ((s.asked slot).retireOne i .revoked, okWith []) := by
    have hlive := ClaimTable.liveFor_ok (mustOwn := false) (who := (s.asked slot).requesterId (requester slot info)) hr hl
      (fun hm => (by cases hm))
    simp only [ownRevoke, hlive]
  have hrecs : ∀ j, (s.claims.retire .revoked i).recs.get j
      = if j = i then { s.claims.recs.get i with state := .retired b .revoked } else s.claims.recs.get j := fun j => by
    rw [ClaimTable.retire_recs, hl]
  refine ⟨_, congrArg Host.Outcome.next (State.serve_owned ha hd (fun _ => hrole) hown), rfl,
    SessionTable.reload_reloaded ha.2.2.1 rfl, ?_, (hrecs i).trans (if_pos rfl), fun j hj => (hrecs j).trans (if_neg hj),
    fun c => (ClaimTable.retire_holders_of_live hl .revoked c).trans ((hstacks c).erase_eq i),
    State.retireOne_reported (s := s.asked slot) hb .revoked hstacks (hleases.1 i b hb).2.2.2.1 hl,
    fun k => State.retireOne_attention (s := s.asked slot) hb .revoked k⟩
  exact State.same rfl rfl rfl rfl rfl rfl rfl rfl rfl rfl rfl (State.retireOne_transit _ i .revoked)

/-! ## CLAIM granted -/

theorem ClaimTable.lowestFree_eq_some {t : ClaimTable} {i : RecIdx} : t.lowestFree = some i ↔
    t.isFree i = true ∧ ∀ j, j < i → t.isFree j = false := by rw [ClaimTable.lowestFree, find?_finRange]

theorem claimPairsRefusal_granted {s : State} {slot : Slot} {q : ClaimParams}
    (h : ∀ pr ∈ q.pairs, firstFailing (claimPairChecks s q pr) = none) : claimPairsRefusal (s.asked slot) q = none :=
  List.findSome?_eq_none_iff.mpr fun pr hpr => by rw [claimPairRefusal_eq, h pr hpr]; rfl

theorem ownClaim_granted {s : State} {who : Requester} {q : ClaimParams} {i : RecIdx} (hd : claimDeviceRefusal s who q = none)
    (hp : claimPairsRefusal s q = none) (hi : s.claims.lowestFree = some i) : ownClaim s who q =
      (s.grant i (grantedBody (s.requesterId who) q),
        okWith (claimPayload (s.claims.grant i (grantedBody (s.requesterId who) q)) i (grantedBody (s.requesterId who) q))) := by
  simp only [ownClaim, hd, hp, hi]

section
variable {s : State} {i : RecIdx} {b : ClaimBody}

theorem State.grant_transit (s : State) (i : RecIdx) (b : ClaimBody) :
    (s.grant i b).transit = { s.transit with reports := (s.grant i b).transit.reports } := Transit.sendAll_rest _ _

theorem State.grant_reported (s : State) (i : RecIdx) (hnodup : b.chans.Nodup) : topsReported s (s.grant i b) :=
  topsReported_of_handTops (u := { s with claims := s.claims.grant i b }) rfl rfl rfl hnodup fun c hc => by
    rw [ClaimTable.top, ClaimTable.top]
    exact congrArg List.head? (s.claims.grant_holders_other i hc)

/-- R15: PREEMPTED for each displaced top; each is a record that the grant leaves as it was. -/
theorem State.grant_attention (hstacks : StacksInv s) (hfree : s.claims.isFree i = true) (k : Slot) :
    (s.grant i b).attention.get k = told (s.claims.grant i b)
      (postsOf (((s.claims.grant i b).changedTops s.claims b.chans).filterMap s.claims.top) .preempted) k
      (s.attention.get k) := by
  refine (Attention.notices_get _ _ _ _ _).trans (told_congr_on (fun q hq => ?_) k _)
  obtain ⟨j, hj, rfl⟩ := List.mem_map.mp hq
  obtain ⟨c, -, htop⟩ := List.mem_filterMap.mp hj
  have hne : j ≠ i := fun he => ClaimTable.not_mem_of_isFree (hstacks c) hfree (he ▸ List.mem_of_mem_head? htop)
  have hrec := s.claims.grant_other b hne
  exact ⟨ClaimTable.ownerSlot_of_ownerOf (ClaimTable.ownerOf_congr hrec).symm,
    (ClaimTable.handle_congr (congrArg ClaimRecord.gen hrec)).symm⟩

/-- R14: a grant that no record of higher priority stands above drives every channel it lists. -/
theorem ClaimTable.grant_drives {t : ClaimTable} (hstacks : ∀ c, t.stackSound c) (hfree : t.isFree i = true)
    (hfirst : ∀ c ∈ b.chans, (∀ j ∈ t.holders.get c, t.priority j ≠ b.priority)
      ∧ ∀ j ∈ t.top c, t.priority j ≤ b.priority) : (t.grant i b).standing i b.chans = .driving := by
  refine if_pos (List.all_eq_true.mpr fun c hc => ?_)
  obtain ⟨hp, htop⟩ := hfirst c hc
  obtain ⟨above, below, hbefore, hafter, habove, -⟩ := ClaimTable.grant_holders (hstacks c) hfree hc hp
  cases above with
  | nil => simp [ClaimTable.top, hafter]
  | cons j above =>
    have hle := htop j (by simp [ClaimTable.top, hbefore])
    exact absurd (habove j List.mem_cons_self) (Nat.not_lt.mpr hle)

theorem claimPayload_grant (t : ClaimTable) (i : RecIdx) (b : ClaimBody) (he : b.epoch = 0#8) :
    claimPayload (t.grant i b) i b = [(t.recs.get i).gen + 1, BitVec.ofNat 8 i.val, 0x00#8,
      BitVec.ofNat 8 ((t.grant i b).standing i b.chans).code] := by
  simp [claimPayload, ClaimHandle.bytes, ClaimTable.handle, t.grant_self i b, be8, he]

end

/-- Settles O23: no check refuses, the lowest FREE record is granted, and the tops it takes are handed on. -/
theorem claimGranted : Obligations.ClaimGranted := by
  unfold Obligations.ClaimGranted
  intro s p r slot info q i ha hd hstacks hsupervisor hquiesced hcommit hceiling hcount hfree hlowest hpairs
  have hlow := ClaimTable.lowestFree_eq_some.mpr ⟨hfree, hlowest⟩
  have hdevice : claimDeviceRefusal (s.asked slot) (requester slot info) q = none := by
    have hpool : decide (∀ i, s.claims.isFree i = false) = false := decide_eq_false fun h => by
      rw [h i] at hfree
      cases hfree
    rw [claimDeviceRefusal_eq ha, claimDeviceChecks, hpool]
    rcases hsupervisor with h | h <;> simp [h, hquiesced, hcommit, Nat.not_lt.mpr hceiling, Nat.not_le.mpr hcount]
  have hpair : claimPairsRefusal (s.asked slot) q = none := claimPairsRefusal_granted fun pr hpr => by
    obtain ⟨hcondition, hlimits, hpriority, hroom, htop⟩ := hpairs pr hpr
    have htaken : (s.claims.holders.get pr.chan).any (fun j => s.claims.priority j == q.priority) = false :=
      List.any_eq_false.mpr fun j hj => by simpa using hpriority j hj
    have hnotTop : (q.disposition == .immediate
        && (s.claims.top pr.chan).any (fun j => decide (q.priority < s.claims.priority j))) = false := by
      cases hdisposition : q.disposition with
      | standby => rfl
      | immediate =>
        cases hj : s.claims.top pr.chan with
        | none => rfl
        | some j => simpa using htop hdisposition j hj
    rw [claimPairChecks, htaken, hnotTop]
    simp [hcondition, hlimits, Nat.not_le.mpr hroom]
  have hown := ownClaim_granted hdevice hpair hlow
  rw [State.asked_requesterId] at hown
  have hnodup : (grantedBody (s.sessions.idOf slot) q).chans.Nodup := (decodeClaim_ok hd).2.2.2.2.2.1
  have hp : ∀ c ∈ q.pairs.map Pair.chan, (∀ j ∈ s.claims.holders.get c, s.claims.priority j ≠ q.priority)
      ∧ (q.disposition = .immediate → ∀ j ∈ s.claims.top c, s.claims.priority j ≤ q.priority) := fun c hc => by
    obtain ⟨pr, hpr, rfl⟩ := List.mem_map.mp hc
    obtain ⟨-, -, hpriority, -, htop⟩ := hpairs pr hpr
    exact ⟨hpriority, htop⟩
  refine ⟨_, congrArg Host.Outcome.next (State.serve_owned ha hd (by simp) hown),
    SessionTable.reload_reloaded ha.2.2.1 rfl, ?_, s.claims.grant_self i _, fun j hj => s.claims.grant_other _ hj,
    fun c hc => s.claims.grant_holders_other i hc, fun c hc => ClaimTable.grant_holders (hstacks c) hfree hc (hp c hc).1,
    State.grant_reported (s.asked slot) i hnodup, fun k => State.grant_attention (s := s.asked slot) hstacks hfree k,
    fun himmediate => ClaimTable.grant_drives hstacks hfree fun c hc => ⟨(hp c hc).1, (hp c hc).2 himmediate⟩,
    answered_of_payload rfl (claimPayload_grant s.claims i _ rfl)⟩
  exact State.same rfl rfl rfl rfl rfl rfl rfl rfl rfl rfl rfl (State.grant_transit _ i _)

/-! ## The end of a session -/

/-- R24: every record's owner is named by the handle its slot has at present. -/
def ownersNamed (st : SessionTable) (t : ClaimTable) : Prop := ∀ i id, t.ownerOf i = some id → st.idOf id.slot = id

theorem OwnersInv.named {s : State} (h : OwnersInv s) : ownersNamed s.sessions s.claims := fun i id hid =>
  ((ownersInv_iff.mp h).2.1 i id hid).2

theorem ownersNamed.mem_owned {st : SessionTable} {t : ClaimTable} (h : ownersNamed st t) {slot : Slot} {i : RecIdx} :
    i ∈ t.owned (st.idOf slot) ↔ t.ownerSlot i = some slot := by
  rw [ClaimTable.mem_owned, t.ownerSlot_eq, Option.map_eq_some_iff]
  refine ⟨fun hid => ⟨_, hid, rfl⟩, fun ⟨id, hid, hslot⟩ => ?_⟩
  rw [hid, ← hslot, h i id hid]

section
variable {s : State} {slot : Slot}

theorem State.endSession_claims (s : State) (slot : Slot) (info : SessionInfo) (lapses : Bool) :
    (s.endSession slot info lapses).claims = (s.claims.owned (s.sessions.idOf slot)).foldl ClaimTable.free s.claims := rfl

theorem State.endSession_transit (s : State) (slot : Slot) (info : SessionInfo) (lapses : Bool) :
    (s.endSession slot info lapses).transit
      = { s.transit with reports := (s.endSession slot info lapses).transit.reports } := State.handTops_transit _ _ _

/-- R25: the records of the session that ends become FREE. -/
theorem State.endSession_recs (h : ownersNamed s.sessions s.claims) (info : SessionInfo) (lapses : Bool) (i : RecIdx) :
    (s.endSession slot info lapses).claims.recs.get i
      = if s.claims.ownerSlot i = some slot then { s.claims.recs.get i with state := .free } else s.claims.recs.get i := by
  simp only [State.endSession_claims, ClaimTable.freeAll_recs, h.mem_owned]

theorem State.endSession_holders (h : ownersNamed s.sessions s.claims) (info : SessionInfo) (lapses : Bool) {c : Chan}
    (hnodup : (s.claims.holders.get c).Nodup) :
    (s.endSession slot info lapses).claims.holders.get c
      = (s.claims.holders.get c).filter fun i => s.claims.ownerSlot i != some slot := by
  rw [State.endSession_claims, ClaimTable.freeAll_holders _ _ _ hnodup]
  refine List.filter_congr fun i _ => ?_
  rw [Bool.eq_iff_iff, decide_eq_true_iff, bne_iff_ne, h.mem_owned]

theorem State.endSession_reported (s : State) (slot : Slot) (info : SessionInfo) (lapses : Bool) :
    topsReported s (s.endSession slot info lapses) :=
  topsReported_of_handTops (u := { s with claims := (s.claims.owned (s.sessions.idOf slot)).foldl ClaimTable.free s.claims })
    (cs := allChans) rfl rfl rfl (List.nodup_finRange 48) fun c hc => absurd (List.mem_finRange c) hc

theorem State.endSession_attention_self (s : State) (slot : Slot) (info : SessionInfo) (lapses : Bool) :
    (s.endSession slot info lapses).attention.get slot = [] := Table.get_set_self _ _ _

theorem State.endSession_attention_other (s : State) {slot k : Slot} (hk : k ≠ slot) (info : SessionInfo) (lapses : Bool) :
    (s.endSession slot info lapses).attention.get k = told (s.endSession slot info lapses).claims
      (resumedPosts s (s.endSession slot info lapses) allChans) k (s.attention.get k) :=
  (Table.get_set_ne _ _ hk).trans (State.handTops_attention _ _ _ k)

theorem State.endSession_store (s : State) (slot : Slot) (info : SessionInfo) (lapses : Bool) :
    (s.endSession slot info lapses).store = { s.store with
      staging := if info.role = .maintenance then s.store.active else s.store.staging } := by
  show (if info.role = .maintenance then { s.store with staging := s.store.active } else s.store) = _
  split <;> rfl

end

/-- Settles O22: the session end, with the slot left CLOSED. -/
theorem closeEndsSession : Obligations.CloseEndsSession := by
  unfold Obligations.CloseEndsSession
  intro s p r slot info ha hl hstacks howners
  have hnamed : ownersNamed (s.asked slot).sessions s.claims := fun i id hid => by
    rw [SessionTable.reload_idOf]
    exact OwnersInv.named howners i id hid
  let passed := (requester slot info).info
  have hx := State.serve_owned (maintenanceOnly := false) ha (decodeNone_of_length hl) (by simp)
    (show ownClose (s.asked slot) (requester slot info) () = _ from rfl)
  have hrecs : ∀ k, ((s.asked slot).endSession slot passed false).sessions.recs.get k
      = if k = slot then { s.sessions.recs.get slot with state := .closed } else s.sessions.recs.get k := fun k => by
    refine (SessionTable.ended_recs slot k _ _).trans ?_
    rw [s.sessions.reload_recs slot slot info ha.2.2.1, if_pos rfl, s.sessions.reload_recs slot k info ha.2.2.1]
    split <;> rfl
  refine ⟨_, congrArg Host.Outcome.next hx, rfl, ?_, (hrecs slot).trans (if_pos rfl),
    fun j hj => (hrecs j).trans (if_neg hj), rfl, fun i => State.endSession_recs hnamed passed false i,
    fun c => State.endSession_holders hnamed passed false (ClaimTable.stackSound.nodup (hstacks c)),
    (s.asked slot).endSession_reported slot passed false, (s.asked slot).endSession_attention_self slot passed false,
    fun j hj => (s.asked slot).endSession_attention_other hj passed false, (s.asked slot).endSession_store slot passed false⟩
  exact State.same rfl rfl rfl rfl rfl rfl rfl rfl rfl rfl rfl (State.endSession_transit _ slot passed false)

end Sys2Proof.Machine
end

section
/-! PROOFS. WINDOW_END (R116, R117, R122 to R126), REFCLK_EDGE (R118) and COMMIT_COMPLETION (R143 to R145). -/

-- The whole text compiles close to the check's memory limit, so this part starts no threads of its own.
set_option Elab.async false

namespace Sys2Proof.Machine

/-! ## WINDOW_END -/

section
variable {s : State}

theorem exec_windowEnd (h : s.resetHeld = false) : exec .windowEnd s = .next s.windowEnd := by
  simp [exec, execWindowEnd, h]

/-- R122: the window that sets reference-present in STARTING. -/
theorem State.windowEnd_locks (hp : s.supervisor.producing = true) (hs : s.supervisor.state = .starting)
    (hset : s.supervisor.setsReference = true) :
    s.windowEnd = { s with supervisor := s.supervisor.windowEnded }.enterLocked := by
  simp [State.windowEnd, hp, hs, hset]

/-- R123: the window that is not good in LOCKED. -/
theorem State.windowEnd_loses (hp : s.supervisor.producing = true) (hs : s.supervisor.state = .locked)
    (hgood : s.supervisor.goodWindow = false) :
    s.windowEnd = { s with supervisor := s.supervisor.windowEnded }.enterHoldover := by
  simp [State.windowEnd, hp, hs, hgood]

/-- R126: the window that sets reference-present in HOLDOVER or LAPSED. -/
theorem State.windowEnd_announces (hp : s.supervisor.producing = true)
    (hs : s.supervisor.state = .holdover ∨ s.supervisor.state = .lapsed) (hset : s.supervisor.setsReference = true) :
    s.windowEnd = { s with supervisor := s.supervisor.windowEnded }.deviceNotice .timebase := by
  rcases hs with hs | hs <;> simp [State.windowEnd, hp, hs, hset]

/-- R116, R117: every other window end changes the counts and reference-present alone. -/
theorem State.windowEnd_counts (h : ¬ (s.supervisor.producing = true ∧ (s.supervisor.state = .locked
      ∧ s.supervisor.goodWindow = false ∨ s.supervisor.state ≠ .locked ∧ s.supervisor.setsReference = true))) :
    s.windowEnd = { s with supervisor := s.supervisor.windowEnded } := by
  cases hp : s.supervisor.producing with
  | false => simp [State.windowEnd, hp]
  | true => cases hs : s.supervisor.state <;> simp [State.windowEnd, hp, hs] at h ⊢ <;> simp [h]

end

/-- R116, R117: the good run and reference-present after a window. -/
theorem Supervisor.windowEnded_judged {u : Supervisor} (h : u.counted) :
    (u.edgeCount = 4 → u.windowEnded.goodRun = (if u.goodRun = 16 then 16 else u.goodRun + 1)
        ∧ (u.windowEnded.refPresent = true ↔ u.refPresent = true ∨ u.goodRun = 15))
      ∧ (¬ u.edgeCount = 4 → u.windowEnded.goodRun = 0 ∧ u.windowEnded.refPresent = false) := by
  obtain ⟨-, -, hrun, -⟩ := h
  refine ⟨fun hedges => ?_, fun hedges => ?_⟩
  · have hgood := Supervisor.goodWindow_iff.mpr hedges
    refine ⟨?_, ?_⟩
    · simp only [Supervisor.windowEnded, hgood, if_true, Config.goodRunFull] at hrun ⊢
      split <;> omega
    · simp [Supervisor.windowEnded_refPresent, hgood, Supervisor.setsReference_iff, hedges]
  · have hgood : u.goodWindow = false := Bool.eq_false_iff.mpr (mt Supervisor.goodWindow_iff.mp hedges)
    simp [Supervisor.windowEnded, hgood]

/-- Settles O40: the counts are judged alike at every window end, and the state changes by one of four cases. -/
theorem windowEndJudgesReference : Obligations.WindowEndJudgesReference := by
  unfold Obligations.WindowEndJudgesReference
  intro s hheld hcounted
  obtain ⟨hgoodRun, hbadRun⟩ := Supervisor.windowEnded_judged hcounted
  have hx := exec_windowEnd hheld
  have hsets := Supervisor.setsReference_iff (u := s.supervisor)
  have hgood : s.supervisor.goodWindow = false ↔ ¬ s.supervisor.edgeCount = 4 := by
    rw [← Supervisor.goodWindow_iff, Bool.not_eq_true]
  by_cases hevent : s.supervisor.producing = true ∧ (s.supervisor.state = .locked ∧ s.supervisor.goodWindow = false
      ∨ s.supervisor.state ≠ .locked ∧ s.supervisor.setsReference = true)
  · obtain ⟨hp, ⟨hs, hlost⟩ | ⟨hs, hset⟩⟩ := hevent
    · have hnot := hgood.mp hlost
      rw [State.windowEnd_loses hp hs hlost] at hx
      exact ⟨_, hx, rfl, rfl, rfl, hgoodRun, hbadRun, rfl, fun _ hstart => (by cases hs.symm.trans hstart),
        fun _ _ _ => ⟨rfl, rfl, rfl, rfl, State.deviceNotice_told .timebase rfl rfl, rfl⟩,
        fun hn => absurd ⟨hp, hs, hnot⟩ hn, fun hn => absurd ⟨hp, .inr ⟨hs, hnot⟩⟩ hn,
        fun _ _ hset => absurd hset.1 hnot, fun hn => absurd ⟨hp, .inl ⟨hs, hnot⟩⟩ hn⟩
    · by_cases hstart : s.supervisor.state = .starting
      · rw [State.windowEnd_locks hp hstart hset] at hx
        exact ⟨_, hx, rfl, rfl, rfl, hgoodRun, hbadRun, rfl,
          fun _ _ _ => ⟨rfl, rfl, rfl, rfl, State.deviceNotice_told .timebase rfl rfl⟩, fun _ hlocked => absurd hlocked hs,
          fun _ => rfl, fun hn => absurd ⟨hp, .inl ⟨hstart, hsets.mp hset⟩⟩ hn,
          fun _ _ _ => State.deviceNotice_told .timebase rfl rfl, fun hn => absurd ⟨hp, .inr ⟨hs, hsets.mp hset⟩⟩ hn⟩
      · have hlate : s.supervisor.state = .holdover ∨ s.supervisor.state = .lapsed := by
          cases h : s.supervisor.state <;> simp_all
        rw [State.windowEnd_announces hp hlate hset] at hx
        exact ⟨_, hx, rfl, rfl, rfl, hgoodRun, hbadRun, rfl, fun _ h => absurd h hstart, fun _ h => absurd h hs,
          fun _ => rfl, fun _ => ⟨rfl, rfl, rfl, rfl⟩, fun _ _ _ => State.deviceNotice_told .timebase rfl rfl,
          fun hn => absurd ⟨hp, .inr ⟨hs, hsets.mp hset⟩⟩ hn⟩
  · rw [State.windowEnd_counts hevent] at hx
    rw [hgood, hsets] at hevent
    exact ⟨_, hx, rfl, rfl, rfl, hgoodRun, hbadRun, rfl,
      fun hp hs hset => absurd ⟨hp, .inr ⟨by rw [hs]; decide, hset⟩⟩ hevent,
      fun hp hs hnot => absurd ⟨hp, .inl ⟨hs, hnot⟩⟩ hevent, fun _ => rfl, fun _ => ⟨rfl, rfl, rfl, rfl⟩,
      fun hp hs hset => absurd ⟨hp, .inr ⟨by rcases hs with hs | hs <;> rw [hs] <;> decide, hset⟩⟩ hevent, fun _ => rfl⟩

/-! ## REFCLK_EDGE -/

/-- R118: an edge that the divider counts. -/
theorem State.countDivider_edge {s : State} (h : s.supervisor.producing = true ∧ s.supervisor.source = .refclkEdges) :
    s.countDivider .refclkEdges =
      if s.supervisor.dividerCount + 1 ≥ s.supervisor.prescaler then s.produceTick
      else { s with supervisor := { s.supervisor with dividerCount := s.supervisor.dividerCount + 1 } } := by
  rw [State.countDivider, if_pos h, Supervisor.division, h.2]

/-- Settles O41, by whether the divider counts the edge and whether it reaches the prescaler. -/
theorem refclkEdgeCounts : Obligations.RefclkEdgeCounts := by
  unfold Obligations.RefclkEdgeCounts
  intro s hheld
  have hedges : min Config.goodEdges (s.supervisor.edgeCount + 1)
      = if s.supervisor.edgeCount < 4 then s.supervisor.edgeCount + 1 else 4 := by
    rw [Config.goodEdges]
    split <;> omega
  have hx : exec .refclkEdge s = .next ({ s with supervisor := { s.supervisor with
      edgeCount := if s.supervisor.edgeCount < 4 then s.supervisor.edgeCount + 1 else 4 } }.countDivider .refclkEdges) := by
    simp [exec, execRefclkEdge, hheld, hedges]
  refine ⟨_, hx, fun hcounts => if_neg hcounts, fun hcounts hbelow => ?_, fun hcounts hreached => ?_⟩
  · rw [State.countDivider_edge (by exact hcounts)]
    exact if_neg (Nat.not_le.mpr hbelow)
  · rw [State.countDivider_edge (by exact hcounts)]
    exact if_pos hreached

/-! ## COMMIT_COMPLETION -/

theorem verified_iff {cm : Commit} {written : List Byte} :
    verified cm written = true ↔ copyValid written = true ∧ written.take 540 = cm.image.content := by
  simp [verified, Config.contentBytes]

/-- R142: a write that the memory took whole reads back as written. -/
theorem verified_copyImage {cm : Commit} (h : cm.image.sound = true) :
    copyValid (copyImage cm.image) = true ∧ (copyImage cm.image).take 540 = cm.image.content :=
  ⟨copyImage_valid h, copyImage_take cm.image⟩

section
variable {s : State} {cm : Commit} {flaws : List Flaw} {order : ActivationOrder}

theorem exec_commitCompletion_verified (hcm : s.store.commit = some cm)
    (h : verified cm (applyFlaws flaws (copyImage cm.image)) = true) : exec (.commitCompletion flaws order) s
      = .next (({ s with store := (s.store.withCopy cm.target (applyFlaws flaws (copyImage cm.image))).committed cm }.deliver
          cm.image order).deviceNotice .profile) := by
  simp [exec, execCommitCompletion, hcm, State.completeCommit, h]

theorem exec_commitCompletion_failed (hcm : s.store.commit = some cm)
    (h : ¬ verified cm (applyFlaws flaws (copyImage cm.image)) = true) : exec (.commitCompletion flaws order) s
      = .next ({ s with store := (s.store.withCopy cm.target
          (applyFlaws flaws (copyImage cm.image))).commitFailed }.maintenanceNotice .profile) := by
  simp [exec, execCommitCompletion, hcm, State.completeCommit, h]

end

theorem ProfileStore.withCopy_copy (st : ProfileStore) (target copyId : CopyId) (r : List Byte) :
    (st.withCopy target r).copy copyId = if copyId = target then r else st.copy copyId := by
  cases target <;> cases copyId <;> rfl

theorem ProfileStore.commitFailed_rest (st : ProfileStore) (target : CopyId) (r : List Byte) :
    (st.withCopy target r).commitFailed = { st with
      staging := st.active, lastOutcome := .failed, commit := none, copyA := (st.withCopy target r).commitFailed.copyA
      copyB := (st.withCopy target r).commitFailed.copyB } := by
  cases target <;> rfl

theorem ProfileStore.committed_rest (st : ProfileStore) (cm : Commit) (r : List Byte) :
    (st.withCopy cm.target r).committed cm = { st with
      active := cm.image, staging := cm.image, activeCopy := some cm.target, defaulted := false, lastOutcome := .done
      commit := none, copyA := ((st.withCopy cm.target r).committed cm).copyA
      copyB := ((st.withCopy cm.target r).committed cm).copyB } := by
  unfold ProfileStore.withCopy
  split <;> rfl

/-- R88: a new target is stepped to at rate 0, and otherwise left to the ramp. -/
theorem Channel.moveTo_spec (ch : Channel) (v : Nat) :
    ch.moveTo v = { ch with target := (ch.moveTo v).target, output := (ch.moveTo v).output
                            rampState := (ch.moveTo v).rampState }
      ∧ (ch.rate = 0 → (ch.moveTo v).output = (ch.moveTo v).target ∧ (ch.moveTo v).rampState = .settled)
      ∧ (ch.rate ≠ 0 → (ch.moveTo v).output = ch.output
          ∧ ((ch.moveTo v).rampState = .settled ↔ (ch.moveTo v).target = ch.output)) := by
  by_cases hrate : ch.rate = 0
  · have hmoved : ch.moveTo v = { ch with target := v, output := v, rampState := .settled } := if_pos hrate
    rw [hmoved]
    exact ⟨rfl, fun _ => ⟨rfl, rfl⟩, fun hn => absurd hrate hn⟩
  · have hmoved : ch.moveTo v = { ch with target := v, rampState := if v = ch.output then .settled else .ramping } := by
      rw [Channel.moveTo, if_neg hrate]
      split <;> rfl
    rw [hmoved]
    exact ⟨rfl, fun h => absurd h hrate, fun _ => ⟨rfl, by simp⟩⟩

/-- R98: what an activation leaves of an ENABLED record. -/
theorem Channel.activate_spec (ch : Channel) (k : ChannelProfile) (quiesced : Bool) :
    ch.activate k quiesced = { ch with rest := k.rest, low := k.low, high := k.high, rate := k.rate
                                       target := (ch.activate k quiesced).target
                                       output := (ch.activate k quiesced).output
                                       rampState := (ch.activate k quiesced).rampState }
      ∧ (quiesced = true ∨ ch.condition = .faulted → (ch.activate k quiesced).target = k.rest
          ∧ (ch.activate k quiesced).output = k.rest ∧ (ch.activate k quiesced).rampState = .settled)
      ∧ (quiesced = false → ch.condition = .normal → (ch.activate k quiesced).target = ch.topValue.getD k.rest
          ∧ (k.rate = 0 → (ch.activate k quiesced).output = (ch.activate k quiesced).target
              ∧ (ch.activate k quiesced).rampState = .settled)
          ∧ (k.rate ≠ 0 → (ch.activate k quiesced).output = ch.output
              ∧ ((ch.activate k quiesced).rampState = .settled ↔ (ch.activate k quiesced).target = ch.output))) := by
  by_cases hrest : quiesced = true ∨ ch.condition = .faulted
  · have hactivate : ch.activate k quiesced = (ch.settings k).stepToRest := if_pos hrest
    rw [hactivate]
    refine ⟨rfl, fun _ => ⟨rfl, rfl, rfl⟩, fun hq hn => ?_⟩
    rcases hrest with h | h
    · cases hq.symm.trans h
    · cases hn.symm.trans h
  · have hactivate : ch.activate k quiesced = (ch.settings k).moveTo (ch.topValue.getD k.rest) := if_neg hrest
    rw [hactivate]
    obtain ⟨hframe, hsteps, hramps⟩ := (ch.settings k).moveTo_spec (ch.topValue.getD k.rest)
    exact ⟨hframe, fun h => absurd h hrest, fun _ _ => ⟨Channel.moveTo_target _ _, hsteps, hramps⟩⟩

/-- R111 step 4: the scan position after an activation. -/
theorem lowestEnabled_spec (prof : Profile) : ((∀ c, (prof.chans.get c).enable ≠ 1) → lowestEnabled prof = 0)
    ∧ (∀ c, (prof.chans.get c).enable = 1 → (∀ d, d < c → (prof.chans.get d).enable ≠ 1) → lowestEnabled prof = c) := by
  refine ⟨fun hnone => ?_, fun c hc hbefore => ?_⟩
  · have hfind : allChans.find? (fun c => (prof.chans.get c).enable == 1) = none :=
      List.find?_eq_none.mpr fun c _ => by simpa using hnone c
    rw [lowestEnabled, hfind]
    rfl
  · have hfind : allChans.find? (fun c => (prof.chans.get c).enable == 1) = some c :=
      find?_finRange.mpr ⟨by simpa using hc, fun d hd => by simpa using hbefore d hd⟩
    rw [lowestEnabled, hfind]
    rfl

/-- R111: an activation at the monitor gives it the settings and a search from the lowest enabled channel. -/
theorem State.activateMonitor_finds (s : State) (prof : Profile) : ∃ m, s.activateMonitor prof = { s with monitor := m }
    ∧ m.chans = monitorSettings prof ∧ foundBySearch { s with monitor := m } (lowestEnabled prof) m := by
  have hrest := State.search_rest { s with monitor := ⟨.waiting, lowestEnabled prof, monitorSettings prof⟩ }
  have hfound := State.search_foundAfter { s with monitor := ⟨.waiting, lowestEnabled prof, monitorSettings prof⟩ }
  have hchans := State.search_chans { s with monitor := ⟨.waiting, lowestEnabled prof, monitorSettings prof⟩ }
  rw [hrest] at hfound
  exact ⟨_, hrest, hchans, hfound⟩

/-- R144: with the output stage first, the search meets the outputs as the activation leaves them. -/
theorem State.deliver_outputFirst_found (s : State) (prof : Profile) : foundBySearch (s.deliver prof .outputFirst)
    (lowestEnabled prof) (s.deliver prof .outputFirst).monitor := by
  obtain ⟨m, hm, -, hfound⟩ := (s.activateOutputs prof).activateMonitor_finds prof
  rw [State.deliver, hm]
  exact hfound

/-- R144: with the readback monitor first, the search meets the outputs as they were, and their change may then disturb
the conversion it began. -/
theorem State.deliver_monitorFirst_found (s : State) (prof : Profile) :
    ∃ m, foundBySearch { s.deliver prof .monitorFirst with outputs := s.outputs } (lowestEnabled prof) m
      ∧ disturbedByChange { s with monitor := m } (s.deliver prof .monitorFirst) := by
  obtain ⟨m, hm, hchans, hfound⟩ := s.activateMonitor_finds prof
  refine ⟨m, foundBySearch_congr hfound (fun c => ?_) fun _ => rfl, ?_⟩
  · simp only [State.eligible, State.deliver_monitorChans, State.deliver_transit, hchans]
  · rw [State.deliver, hm]
    exact State.changeChannels_disturbs { s with monitor := m } _

theorem State.deliver_outputsRest (s : State) (prof : Profile) (order : ActivationOrder) :
    (s.deliver prof order).outputs = { s.outputs with chans := (s.deliver prof order).outputs.chans } := by
  rw [State.deliver_outputs]

/-- R98: each channel after a delivery. -/
theorem State.deliver_channel (s : State) (prof : Profile) (order : ActivationOrder) (c : Chan) :
    (s.deliver prof order).outputs.chans.get c = Channel.whenEnabled
      (Channel.activate · (prof.chans.get c) s.outputs.quiesced) (s.outputs.chans.get c) := by
  rw [State.deliver_outputs, Table.get_mapIdx]

/-- Settles O39: the target verified or not; the delivery in the order given. -/
theorem commitCompletionVerifies : Obligations.CommitCompletionVerifies := by
  unfold Obligations.CommitCompletionVerifies
  intro s flaws order cm hcm written verifies prof
  have hverified : verified cm written = true ↔ verifies := verified_iff
  refine ⟨fun hflaws hsound => ?_, fun hv => ?_, fun hv => ?_⟩
  · subst hflaws
    exact verified_copyImage hsound
  · let committed : State := { s with store := (s.store.withCopy cm.target written).committed cm }
    refine ⟨_, exec_commitCompletion_verified hcm (hverified.mpr hv), ?_, ?_, fun copyId hne => ?_, ?_, fun c => ⟨fun hc => ?_,
      fun hc => ?_⟩, fun c => ?_, ⟨lowestEnabled cm.image, (lowestEnabled_spec cm.image).1, (lowestEnabled_spec cm.image).2,
      fun horder => ?_, fun horder => ?_⟩, committed.deliver_supervisor cm.image order,
      State.deviceNotice_told .profile (congrArg SessionTable.isOpen (committed.deliver_sessions cm.image order))
        (committed.deliver_attention cm.image order)⟩
    · exact State.same (committed.deliver_pending _ order) (committed.deliver_resetHeld _ order)
        (committed.deliver_quiescenLow _ order) (committed.deliver_ports _ order) (committed.deliver_sessions _ order)
        (committed.deliver_claims _ order) rfl (committed.deliver_outputsRest _ order) rfl rfl rfl
        (committed.deliver_transit _ order)
    · exact (congrArg (ProfileStore.copy · cm.target) (committed.deliver_store _ order)).trans
        ((s.store.withCopy_copy cm.target cm.target written).trans (if_pos rfl))
    · exact (congrArg (ProfileStore.copy · copyId) (committed.deliver_store _ order)).trans
        ((s.store.withCopy_copy cm.target copyId written).trans (if_neg hne))
    · rw [State.deviceNotice_store, committed.deliver_store]
      exact s.store.committed_rest cm written
    · exact (committed.deliver_channel cm.image order c).trans (Channel.whenEnabled_of_disabled hc _)
    · have hspec := (s.outputs.chans.get c).activate_spec (cm.image.chans.get c) s.outputs.quiesced
      rw [← (committed.deliver_channel cm.image order c).trans (Channel.whenEnabled_of_enabled hc _)] at hspec
      exact hspec
    · exact (congrArg (Table.get · c) (committed.deliver_monitorChans cm.image order)).trans (Table.get_map _ _ _)
    · subst horder
      exact committed.deliver_outputFirst_found cm.image
    · subst horder
      exact committed.deliver_monitorFirst_found cm.image
  · refine ⟨_, exec_commitCompletion_failed hcm (mt hverified.mp hv), rfl, ?_, fun copyId hne => ?_,
      s.store.commitFailed_rest cm.target written,
      State.maintenanceNotice_get _ _⟩
    · exact (s.store.withCopy_copy cm.target cm.target written).trans (if_pos rfl)
    · exact (s.store.withCopy_copy cm.target copyId written).trans (if_neg hne)

end Sys2Proof.Machine
end

section
/-! PROOFS. Ticks: TICK as each block takes it (R31, R61, R89, R106, R118, R124), LEASE_EXPIRY (R31, R33, R34) and
LAPSED_ENTRY (R45, R125). -/

-- The whole text compiles close to the check's memory limit, so this part starts no threads of its own.
set_option Elab.async false

namespace Sys2Proof.Machine

/-! ## A tick taken -/

/-- R118: what a block meets at its tick: the tick is its own to do, and no longer owed. -/
abbrev State.taken (s : State) (b : TickTaker) : State :=
  { s with transit := { s.transit with ticks := s.transit.ticks.take b } }

section
variable {s : State} {b : TickTaker}

theorem State.takeTick_owed (h : 0 < s.transit.ticks.of b) : s.takeTick b = (s.taken b).blockTick b :=
  if_neg (Nat.ne_of_gt h)

theorem State.takeTick_of_none (h : s.transit.ticks = ⟨0, 0, 0, 0, 0⟩) (b : TickTaker) : s.takeTick b = s :=
  if_pos (by rw [h]; cases b <;> rfl)

theorem TicksOwed.ne_of_owed {o : TicksOwed} (h : 0 < o.of b) : o ≠ ⟨0, 0, 0, 0, 0⟩ := by
  rintro rfl
  cases b <;> exact absurd h (Nat.lt_irrefl 0)

theorem TicksOwed.any_iff {o : TicksOwed} : o.any = true ↔ o ≠ ⟨0, 0, 0, 0, 0⟩ := by
  rw [TicksOwed.any, List.any_eq_true]
  refine ⟨fun ⟨b, _, hb⟩ => TicksOwed.ne_of_owed (of_decide_eq_true hb), fun hne => ?_⟩
  by_contra hnone
  have hzero : ∀ b, o.of b = 0 := fun b => Nat.eq_zero_of_not_pos fun hp =>
    hnone ⟨b, by cases b <;> simp [TickTaker.all], decide_eq_true hp⟩
  exact hne ((TicksOwed.mk.injEq ..).mpr
    ⟨hzero .claimTable, hzero .sessionTable, hzero .outputStage, hzero .readbackMonitor, hzero .supervisor⟩)

/-- R118: the ticks that a TICK finds to be taken, those it hands out itself included. -/
def State.handed (s : State) : State := if s.transit.ticks.any then s else s.produceTick

theorem State.handed_of_owed (h : s.transit.ticks ≠ ⟨0, 0, 0, 0, 0⟩) : s.handed = s := if_pos (TicksOwed.any_iff.mpr h)

theorem exec_tick (h : s.transit.ticks ≠ ⟨0, 0, 0, 0, 0⟩ ∨ s.supervisor.producing = true) (takers : List TickTaker) :
    exec (.tick takers) s = .next (takers.foldl State.takeTick s.handed) := by
  show execTick takers s = _
  unfold execTick State.handed
  by_cases hany : s.transit.ticks.any = true
  · rw [if_pos hany, if_pos hany]
  · have hproducing := h.resolve_left (mt TicksOwed.any_iff.mpr hany)
    rw [if_neg hany, if_neg hany, if_pos hproducing]

theorem exec_tick_owed (h : s.transit.ticks ≠ ⟨0, 0, 0, 0, 0⟩) (takers : List TickTaker) :
    exec (.tick takers) s = .next (takers.foldl State.takeTick s) := by
  rw [exec_tick (.inl h), State.handed_of_owed h]

/-- R118: one block takes a tick it is owed. -/
theorem exec_tick_one (h : 0 < s.transit.ticks.of b) : exec (.tick [b]) s = .next ((s.taken b).blockTick b) := by
  rw [exec_tick_owed (TicksOwed.ne_of_owed h), ← State.takeTick_owed h]
  rfl

end

/-! ## The claim table's tick -/

theorem ClaimTable.changedTops_self (t : ClaimTable) (cs : List Chan) : t.changedTops t cs = [] := by
  simp [ClaimTable.changedTops]

theorem State.handTops_self (s : State) (cs : List Chan) : s.handTops s.claims cs = s := by
  rw [State.handTops, ClaimTable.changedTops_self]
  rfl

theorem State.expire_of_none {s : State} (h : s.claims.runOut = []) : s.expire = s := by
  rw [State.expire, h]
  exact s.handTops_self allChans

theorem ClaimTable.counted_recs (t : ClaimTable) (i : RecIdx) : t.counted.recs.get i = (t.recs.get i).leaseTick :=
  Table.get_map _ _ _

theorem ClaimRecord.leaseTick_live {r : ClaimRecord} {b : ClaimBody} (h : r.state = .live b) :
    r.leaseTick = ⟨r.gen, .live { b with remaining := b.remaining - 1 }⟩ := by
  rw [ClaimRecord.leaseTick, h]

theorem ClaimRecord.leaseTick_other {r : ClaimRecord} (h : ∀ b, r.state ≠ .live b) : r.leaseTick = r := by
  unfold ClaimRecord.leaseTick
  split
  next b hb => exact absurd hb (h b)
  next => rfl
  next => rfl

theorem ClaimTable.counted_runOut {t : ClaimTable} : t.counted.runOut
    = (List.finRange 64).filter fun i => (t.live? i).any fun b => decide (b.remaining ≤ 1) := by
  refine List.filter_congr fun i _ => ?_
  have hlast : ∀ n : Nat, (n - 1 == 0) = decide (n ≤ 1) := fun n => by
    rw [Bool.eq_iff_iff, beq_iff_eq, decide_eq_true_iff]
    omega
  cases hl : t.live? i with
  | none =>
    have hnone : t.counted.live? i = none := Option.eq_none_iff_forall_ne_some.mpr fun b hb => by
      obtain ⟨b', hb', -⟩ := ClaimTable.counted_live?.mp hb
      cases hl.symm.trans hb'
    rw [hnone]
    rfl
  | some b =>
    rw [ClaimTable.counted_live?.mpr ⟨b, hl, rfl⟩]
    exact hlast b.remaining

/-! ## Records retired -/

section
variable {t : ClaimTable} {why : RetireReason} {is : List RecIdx} {i : RecIdx}

/-- R23: a record that is not LIVE is left as it is by retirements. -/
theorem ClaimTable.retireAll_other (h : t.live? i = none ∨ i ∉ is) : (is.foldl (ClaimTable.retire why) t).recs.get i
    = t.recs.get i := by
  induction is generalizing t with
  | nil => rfl
  | cons j is ih =>
    have hone : (t.retire why j).recs.get i = t.recs.get i := by
      by_cases hij : i = j
      · subst hij
        have hl := h.resolve_right fun hn => hn List.mem_cons_self
        rw [ClaimTable.retire_of_not_live hl]
      · exact t.retire_other why hij
    rw [List.foldl_cons, ih, hone]
    rw [ClaimTable.live?_congr hone]
    exact h.imp_right fun hn hmem => hn (List.mem_cons_of_mem _ hmem)

theorem ClaimTable.retireAll_self {b : ClaimBody} (hl : t.live? i = some b) (hi : i ∈ is) :
    (is.foldl (ClaimTable.retire why) t).recs.get i = ⟨(t.recs.get i).gen, .retired b why⟩ := by
  induction is generalizing t with
  | nil => cases hi
  | cons j is ih =>
    rw [List.foldl_cons]
    by_cases hij : i = j
    · subst hij
      rw [ClaimTable.retireAll_other (.inl (t.retire_live? why i)), ClaimTable.retire_of_live hl]
      exact (ClaimTable.setState_recs _ _ _ _).trans (if_pos rfl)
    · have hone := t.retire_other why hij
      rw [ih ((ClaimTable.live?_congr hone).trans hl) ((List.mem_cons.mp hi).resolve_left hij), hone]

/-- R6: the stacks without the records retired. -/
theorem ClaimTable.retireAll_holders {c : Chan} (h : t.stackSound c) : (is.foldl (ClaimTable.retire why) t).holders.get c
    = (t.holders.get c).filter fun j => decide (j ∉ is) := by
  induction is generalizing t with
  | nil => simp
  | cons j is ih =>
    have hone : (t.retire why j).holders.get c = (t.holders.get c).filter (· != j) := by
      rw [← ClaimTable.stackSound.erase_eq h]
      cases hl : t.live? j with
      | none => rw [ClaimTable.retire_of_not_live hl, List.erase_of_not_mem (ClaimTable.not_mem_holders h hl)]
      | some b => exact ClaimTable.retire_holders_of_live hl why c
    rw [List.foldl_cons, ih (ClaimTable.retire_stackSound why j h), hone, List.filter_filter]
    refine List.filter_congr fun k _ => ?_
    by_cases hk : k = j <;> simp [hk]

end

section
variable (s : State) (is : List RecIdx) (why : RetireReason)

theorem State.retireMany_transit : (s.retireMany is why).transit
    = { s.transit with reports := (s.retireMany is why).transit.reports } := State.handTops_transit _ _ _

theorem State.retireMany_reported : topsReported s (s.retireMany is why) :=
  topsReported_of_handTops (u := s.retireAll is why) (cs := allChans) rfl rfl rfl (List.nodup_finRange 48) fun c hc =>
    absurd (List.mem_finRange c) hc

/-- R34, R45: the notices of the retirements, then RESUMED for each new top. -/
theorem State.retireMany_attention (k : Slot) : (s.retireMany is why).attention.get k = told (s.retireMany is why).claims
    (postsOf is why.reason ++ resumedPosts s (s.retireMany is why) allChans) k (s.attention.get k) := by
  have hretired : (s.retireAll is why).attention.get k
      = told (s.retireMany is why).claims (postsOf is why.reason) k (s.attention.get k) :=
    (Attention.notices_get _ _ _ _ _).trans (told_retireAll s.claims why is _ k _)
  rw [told_append, ← hretired]
  exact State.handTops_attention _ _ _ k

end

/-! ## LEASE_EXPIRY -/

/-- R33: no record is left without a tick once those that ran out have retired. -/
theorem ClaimTable.ticked_runOut (t : ClaimTable) : t.ticked.runOut = [] := by
  refine List.eq_nil_iff_forall_not_mem.mpr fun i hi => ?_
  obtain ⟨b, hl, hz⟩ := ClaimTable.mem_runOut.mp hi
  rw [ClaimTable.ticked_eq, ClaimTable.retireAll_live?] at hl
  split at hl
  · cases hl
  next hnot => exact hnot (ClaimTable.mem_runOut.mpr ⟨b, hl, hz⟩)

/-- R31, R33: each record after the tick. -/
theorem ClaimTable.ticked_recs (t : ClaimTable) (i : RecIdx) : t.ticked.recs.get i = ⟨(t.recs.get i).gen,
    match (t.recs.get i).state with
    | .live b => if b.remaining ≤ 1 then .retired { b with remaining := 0 } .expired
                 else .live { b with remaining := b.remaining - 1 }
    | st => st⟩ := by
  rw [ClaimTable.ticked_eq]
  by_cases hlive : ∃ b, (t.recs.get i).state = .live b
  · obtain ⟨b, hs⟩ := hlive
    have hrec : t.counted.recs.get i = ⟨(t.recs.get i).gen, .live { b with remaining := b.remaining - 1 }⟩ := by
      rw [ClaimTable.counted_recs, ClaimRecord.leaseTick_live hs]
    have hrun : i ∈ t.counted.runOut ↔ b.remaining ≤ 1 := by
      rw [ClaimTable.counted_runOut]
      simp [ClaimTable.live?_eq_some.mpr hs]
    have hl : t.counted.live? i = some { b with remaining := b.remaining - 1 } :=
      ClaimTable.live?_eq_some.mpr (congrArg ClaimRecord.state hrec)
    rw [hs]
    by_cases hlast : b.remaining ≤ 1
    · rw [ClaimTable.retireAll_self hl (hrun.mpr hlast), hrec]
      simp [hlast]
    · rw [ClaimTable.retireAll_other (.inr (mt hrun.mp hlast)), hrec]
      simp [hlast]
  · have hstay : t.counted.recs.get i = t.recs.get i := by
      rw [ClaimTable.counted_recs, ClaimRecord.leaseTick_other (not_exists.mp hlive)]
    have hl : t.counted.live? i = none := Option.eq_none_iff_forall_ne_some.mpr fun b hb =>
      hlive ⟨b, (congrArg ClaimRecord.state hstay).symm.trans (ClaimTable.live?_eq_some.mp hb)⟩
    rw [ClaimTable.retireAll_other (.inl hl), hstay]
    cases hs : t.recs.get i with
    | mk gen state =>
      cases state with
      | live b => exact absurd ⟨b, congrArg ClaimRecord.state hs⟩ hlive
      | free | retired b why => rfl

/-- R6, R33: each stack after the tick. -/
theorem ClaimTable.ticked_holders {t : ClaimTable} {c : Chan} (h : t.stackSound c) : t.ticked.holders.get c
    = (t.holders.get c).filter fun i => (t.live? i).any fun b => decide (1 < b.remaining) := by
  rw [ClaimTable.ticked_eq, ClaimTable.retireAll_holders (ClaimTable.counted_stackSound h), ClaimTable.counted_runOut]
  refine List.filter_congr fun i hi => ?_
  cases hl : t.live? i with
  | none => exact absurd hi (ClaimTable.not_mem_holders (t := t) h hl)
  | some b => simp [hl]

/-- R34: EXPIRED for each record that ran out, then RESUMED for each new top. -/
theorem State.leaseTick_attention (s : State) (k : Slot) : s.decrementLeases.expire.attention.get k
    = told s.decrementLeases.expire.claims
        (postsOf ((List.finRange 64).filter fun i => (s.claims.live? i).any fun b => decide (b.remaining ≤ 1)) .expired
          ++ resumedPosts s s.decrementLeases.expire allChans) k (s.attention.get k) := by
  rw [← ClaimTable.counted_runOut]
  exact State.retireMany_attention _ _ _ k

/-- Settles O43: the claim table's tick, then nothing left to expire. -/
theorem leaseExpiryRetiresRecords : Obligations.LeaseExpiryRetiresRecords := by
  unfold Obligations.LeaseExpiryRetiresRecords
  intro s howed hstacks
  have htick : s.takeTick .claimTable = (s.taken .claimTable).decrementLeases.expire :=
    State.takeTick_owed (b := .claimTable) howed
  have hx : exec .leaseExpiry s = .next (s.taken .claimTable).decrementLeases.expire := by
    show Host.Outcome.next (s.takeTick .claimTable).expire = _
    rw [htick, State.expire_of_none s.claims.ticked_runOut]
  exact ⟨_, hx, State.same rfl rfl rfl rfl rfl rfl rfl rfl rfl rfl rfl (State.retireMany_transit _ _ _),
    fun i => s.claims.ticked_recs i, fun c => ClaimTable.ticked_holders (hstacks c), State.retireMany_reported _ _ _,
    fun k => (s.taken .claimTable).leaseTick_attention k⟩

/-! ## LAPSED_ENTRY -/

theorem ClaimTable.mem_liveRecords {t : ClaimTable} {i : RecIdx} : i ∈ t.liveRecords ↔ ∃ b, t.live? i = some b := by
  simp [ClaimTable.liveRecords, Option.isSome_iff_exists]

/-- R45: each record after the sweep. -/
theorem State.sweep_recs (s : State) (i : RecIdx) : s.sweep.claims.recs.get i = ⟨(s.claims.recs.get i).gen,
    match (s.claims.recs.get i).state with
    | .live b => .retired b .swept
    | st => st⟩ := by
  show (s.claims.liveRecords.foldl (ClaimTable.retire .swept) s.claims).recs.get i = _
  cases hs : s.claims.recs.get i with
  | mk gen state =>
    cases state with
    | live b =>
      have hl : s.claims.live? i = some b := ClaimTable.live?_eq_some.mpr (congrArg ClaimRecord.state hs)
      rw [ClaimTable.retireAll_self hl (ClaimTable.mem_liveRecords.mpr ⟨b, hl⟩), hs]
    | free | retired b why =>
      have hl : s.claims.live? i = none := by simp [ClaimTable.live?, hs]
      rw [ClaimTable.retireAll_other (.inl hl), hs]

/-- R45: every stack empties. -/
theorem State.sweep_holders {s : State} (h : StacksInv s) (c : Chan) : s.sweep.claims.holders.get c = [] := by
  refine (ClaimTable.retireAll_holders (h c)).trans (List.filter_eq_nil_iff.mpr fun i hi => ?_)
  cases hl : s.claims.live? i with
  | none => exact absurd hi (ClaimTable.not_mem_holders (h c) hl)
  | some b => simpa using ClaimTable.mem_liveRecords.mpr ⟨b, hl⟩

theorem State.sweep_top {s : State} (h : StacksInv s) (c : Chan) : s.sweep.claims.top c = none := by
  rw [ClaimTable.top, State.sweep_holders h]
  rfl

theorem State.sweep_reports {s : State} (h : StacksInv s) (c : Chan) : s.sweep.transit.reports.get c
    = s.transit.reports.get c ++ if s.claims.holders.get c = [] then [] else [.emptyStack] := by
  refine (s.retireMany_reported s.claims.liveRecords .swept c).trans (congrArg _ ?_)
  rw [show (s.retireMany s.claims.liveRecords .swept).claims.top c = none from State.sweep_top h c]
  cases hc : s.claims.holders.get c with
  | nil => simp [ClaimTable.top, hc]
  | cons i is => simp [ClaimTable.top, hc]

/-- R45: SWEPT for each record swept, and no new top to tell. -/
theorem State.sweep_attention {s : State} (h : StacksInv s) (k : Slot) : s.sweep.attention.get k
    = told s.claims (postsOf s.claims.liveRecords .swept) k (s.attention.get k) := by
  have hnone : resumedPosts s s.sweep allChans = [] := by
    rw [resumedPosts, List.filterMap_eq_nil_iff.mpr fun c _ => State.sweep_top h c]
    rfl
  have htold := s.retireMany_attention s.claims.liveRecords .swept k
  rw [show s.retireMany s.claims.liveRecords .swept = s.sweep from rfl, hnone, List.append_nil] at htold
  exact htold.trans (told_retireAll s.claims .swept s.claims.liveRecords _ k _).symm

theorem State.lapseIfOut_out {s : State} (h : s.supervisor.holdoverOut = true) : s.lapseIfOut = s.enterLapsed := if_pos h

theorem State.lapseIfOut_running {s : State} (h : s.supervisor.holdoverOut = false) : s.lapseIfOut = s :=
  if_neg (Bool.eq_false_iff.mp h)

/-- Settles O45: the supervisor's tick ends the countdown, and LAPSED has none to end again. -/
theorem lapsedEntrySweepsClaims : Obligations.LapsedEntrySweepsClaims := by
  unfold Obligations.LapsedEntrySweepsClaims
  intro s howed hstate hlast hstacks
  have hout : Supervisor.holdoverOut { s.supervisor with
      holdoverRemaining := s.supervisor.holdoverRemaining.map (· - 1) } = true := by
    rcases hstate with h | h <;> simp [Supervisor.holdoverOut, h, hlast]
  have htick : s.takeTick .supervisor = (s.taken .supervisor).decrementHoldover.enterLapsed :=
    (State.takeTick_owed (b := .supervisor) howed).trans (State.lapseIfOut_out hout)
  have hx : exec .lapsedEntry s = .next (s.taken .supervisor).decrementHoldover.enterLapsed := by
    show Host.Outcome.next (s.takeTick .supervisor).lapseIfOut = _
    rw [htick, State.lapseIfOut_running rfl]
  refine ⟨_, hx, State.same rfl rfl rfl rfl rfl rfl rfl rfl rfl rfl rfl (State.retireMany_transit _ _ _), fun i => ?_, fun c => ?_,
    fun c => ?_, fun slot => ?_⟩
  · exact (s.taken .supervisor).decrementHoldover.sweep_recs i
  · exact State.sweep_holders (s := (s.taken .supervisor).decrementHoldover) hstacks c
  · exact State.sweep_reports (s := (s.taken .supervisor).decrementHoldover) hstacks c
  · have hswept := State.sweep_attention (s := (s.taken .supervisor).decrementHoldover) hstacks slot
    refine (State.deviceNotice_get _ _ _).trans ?_
    simp only [hswept]
    rfl

/-! ## TICK -/

theorem Session.keepaliveTick_opened {r : Session} {i : SessionInfo} (h : r.state = .opened i) :
    r.keepaliveTick = ⟨r.gen, .opened { i with remaining := i.remaining - 1 }⟩ := by
  rw [Session.keepaliveTick, h]

theorem State.lapseSessions_of_none {s : State} (h : ∀ slot, ∀ i ∈ s.sessions.info? slot, i.remaining ≠ 0) :
    s.lapseSessions = s := by
  refine List.foldl_fixed' (fun slot => ?_) _
  unfold State.lapseSlot
  split
  next i hi => exact if_neg (h slot i hi)
  next => rfl

/-- R89: a ramp step moves the output toward the target by at most the rate. -/
theorem Channel.rampTick_spec {ch : Channel} (h : ch.rampState = .ramping) :
    ch.rampTick = { ch with output := ch.rampTick.output, rampState := ch.rampTick.rampState }
      ∧ (ch.output ≤ ch.target → ch.rampTick.output = ch.output + min ch.rate (ch.target - ch.output))
      ∧ (ch.target ≤ ch.output → ch.rampTick.output = ch.output - min ch.rate (ch.output - ch.target))
      ∧ (ch.rampTick.rampState = .settled ↔ ch.rampTick.output = ch.target) := by
  have hticked : ch.rampTick = { ch with
      output := ch.steppedOutput, rampState := if ch.steppedOutput = ch.target then .settled else .ramping } := by
    rw [Channel.rampTick, h]
  rw [hticked]
  refine ⟨rfl, fun hle => ?_, fun hle => ?_, by simp⟩
  all_goals
    show ch.steppedOutput = _
    unfold Channel.steppedOutput
    split <;> omega

theorem Channel.rampTick_settled {ch : Channel} (h : ch.rampState ≠ .ramping) : ch.rampTick = ch := by
  cases hs : ch.rampState with
  | settled => rw [Channel.rampTick, hs]
  | ramping => exact absurd hs h

/-- Settles O42: what is handed out, the ticks of several blocks one after the other, and each block's own part. -/
theorem tickTakenByEachBlock : Obligations.TickTakenByEachBlock := by
  unfold Obligations.TickTakenByEachBlock
  intro s
  refine ⟨fun hnone hproducing => ?_, fun b rest h => ?_, fun howed hlong => ?_, fun howed hlong => ?_, fun howed => ?_,
    fun howed => ?_, fun howed hzero hone => ?_⟩
  · have hhanded : s.handed = s.produceTick := if_neg (mt TicksOwed.any_iff.mp (not_not_intro hnone))
    rw [exec_tick (.inr hproducing), hhanded]
    show Host.Outcome.next s.produceTick = _
    rw [State.produceTick, hnone]
    rfl
  · refine ⟨_, exec_tick h [b], fun hleft => ?_, fun hleft => ?_⟩
    · rw [exec_tick h (b :: rest)]
      exact (exec_tick_owed hleft rest).symm
    · rw [exec_tick h (b :: rest)]
      exact congrArg Host.Outcome.next (List.foldl_fixed' (fun b => State.takeTick_of_none hleft b) rest)
  · have hnone : s.claims.counted.runOut = [] := by
      rw [ClaimTable.counted_runOut]
      refine List.filter_eq_nil_iff.mpr fun i _ => ?_
      cases hl : s.claims.live? i with
      | none => simp
      | some b => simpa using hlong i b hl
    have hblock : (s.taken .claimTable).decrementLeases.expire = (s.taken .claimTable).decrementLeases :=
      State.expire_of_none hnone
    refine ⟨_, (exec_tick_one (b := .claimTable) howed).trans (congrArg Host.Outcome.next hblock), rfl, fun i => ?_⟩
    refine (s.claims.counted_recs i).trans ?_
    cases hs : (s.claims.recs.get i).state with
    | live b => exact ClaimRecord.leaseTick_live hs
    | free | retired b why => exact ClaimRecord.leaseTick_other fun b hb => (by cases hs.symm.trans hb)
  · have hblock : (s.taken .sessionTable).decrementKeepalives.lapseSessions = (s.taken .sessionTable).decrementKeepalives :=
      State.lapseSessions_of_none fun slot i hi => by
        rw [State.decrementKeepalives_info?] at hi
        obtain ⟨i', hi', rfl⟩ := Option.map_eq_some_iff.mp hi
        exact Nat.ne_of_gt (Nat.sub_pos_of_lt (hlong slot i' hi'))
    refine ⟨_, (exec_tick_one (b := .sessionTable) howed).trans (congrArg Host.Outcome.next hblock), rfl, fun slot => ?_⟩
    refine (Table.get_map s.sessions.recs _ slot).trans ?_
    cases hs : (s.sessions.recs.get slot).state with
    | opened i => exact Session.keepaliveTick_opened hs
    | closed | lapsed => rw [Session.keepaliveTick, hs]
  · have hget := (s.taken .outputStage).changeChannels_get fun _ => Channel.whenEnabled Channel.rampTick
    refine ⟨_, exec_tick_one (b := .outputStage) howed, rfl, State.changeChannels_disturbs _ _, fun c => ⟨fun hnot => ?_,
      fun henabled hramping => ?_⟩⟩
    · refine (hget c).trans ?_
      cases henabled : (s.outputs.chans.get c).outputState with
      | disabled => exact Channel.whenEnabled_of_disabled henabled _
      | enabled =>
        exact (Channel.whenEnabled_of_enabled henabled _).trans (Channel.rampTick_settled fun hr => hnot ⟨henabled, hr⟩)
    · have hspec := Channel.rampTick_spec hramping
      rw [← Channel.whenEnabled_of_enabled henabled Channel.rampTick] at hspec
      rw [← show _ = Channel.whenEnabled Channel.rampTick (s.outputs.chans.get c) from hget c] at hspec
      exact hspec
  · by_cases hw : s.monitor.state = .waiting
    · have hblock : (s.taken .readbackMonitor).searchIfWaiting = (s.taken .readbackMonitor).search := by
        simp only [State.searchIfWaiting, hw]
      refine ⟨_, (exec_tick_one (b := .readbackMonitor) howed).trans (congrArg Host.Outcome.next hblock),
        State.search_rest _, State.search_chans _, fun _ => (s.taken .readbackMonitor).search_found, fun hn => absurd hw hn⟩
    · have hblock : (s.taken .readbackMonitor).searchIfWaiting = s.taken .readbackMonitor := by
        unfold State.searchIfWaiting
        split
        next h => exact absurd h hw
        all_goals rfl
      exact ⟨_, (exec_tick_one (b := .readbackMonitor) howed).trans (congrArg Host.Outcome.next hblock), rfl, rfl,
        fun h => absurd h hw, fun _ => rfl⟩
  · have hrunning : (s.taken .supervisor).decrementHoldover.supervisor.holdoverOut = false := by
      have hleft : s.supervisor.holdoverRemaining.map (· - 1) ≠ some 0 := fun hz => by
        obtain ⟨n, hn, hlast⟩ := Option.map_eq_some_iff.mp hz
        have hcases : n = 0 ∨ n = 1 := by omega
        rcases hcases with rfl | rfl
        · exact hzero hn
        · exact hone hn
      simp [Supervisor.holdoverOut, State.decrementHoldover, hleft]
    exact (exec_tick_one (b := .supervisor) howed).trans (congrArg Host.Outcome.next (State.lapseIfOut_running hrunning))

end Sys2Proof.Machine
end

section
/-! PROOFS. SESSION_LAPSE (R61, R62): the sessions that lapse end one after the other, in slot order; what the lapses of
the slots so far have left, kept by the next. -/

-- The whole text compiles close to the check's memory limit, so this part starts no threads of its own.
set_option Elab.async false

namespace Sys2Proof.Machine

/-! ## Stacks as the lapses go on -/

/-- R25: a channel's stack without the records of the slots gone. -/
def ClaimTable.without (t : ClaimTable) (gone : Slot → Bool) (c : Chan) : List RecIdx :=
  (t.holders.get c).filter fun i => !(t.ownerSlot i).any gone

section Tops
variable (t : ClaimTable) (lapses : Slot → Bool) (slot : Slot)

/-- R62: the slots that have lapsed before `slot` does. -/
def lapsedBefore (o : Slot) : Bool := lapses o && decide (o < slot)

/-- R62: the slots that have lapsed once `slot` has. -/
def lapsedUpTo (o : Slot) : Bool := lapses o && decide (o ≤ slot)

/-- The top of a channel's stack before the lapse of `slot`. -/
def ClaimTable.topBefore (c : Chan) : Option RecIdx := (t.without (lapsedBefore lapses slot) c).head?

/-- The top of a channel's stack after the lapse of `slot`. -/
def ClaimTable.topAfter (c : Chan) : Option RecIdx := (t.without (lapsedUpTo lapses slot) c).head?

/-- R9: the lapse of `slot` changes the channel's top. -/
def ClaimTable.lapseChanges (c : Chan) : Bool := t.topAfter lapses slot c != t.topBefore lapses slot c

/-- R9: the report of the channel's top after the lapse of `slot`. -/
def ClaimTable.lapseReport (c : Chan) : Report :=
  match t.topAfter lapses slot c with
  | some i => .newTop (t.handle i) (t.valueOn i c)
  | none => .emptyStack

/-- R10: the records that the lapse of `slot` brings to a top. -/
def ClaimTable.lapseResumes : List RecIdx :=
  ((List.finRange 48).filter (t.lapseChanges lapses slot)).filterMap (t.topAfter lapses slot)

end Tops

/-- R62: what the lapses of the slots `done`, of those that are to lapse, have made of `s`; `gone` tells those slots. -/
structure State.LapsedTo (s : State) (lapses gone : Slot → Bool) (done : List Slot) (x : State) : Prop where
  rest : x = { s with
    sessions := x.sessions, claims := x.claims, attention := x.attention, store := x.store
    transit := { s.transit with reports := x.transit.reports } }
  sessions : ∀ k, x.sessions.recs.get k
    = if gone k then { s.sessions.recs.get k with state := .lapsed } else s.sessions.recs.get k
  lapseList : x.sessions.lapseList = s.sessions.lapseList ++ done
  recs : ∀ i, x.claims.recs.get i
    = if (s.claims.ownerSlot i).any gone then { s.claims.recs.get i with state := .free } else s.claims.recs.get i
  holders : ∀ c, x.claims.holders.get c = s.claims.without gone c
  reports : ∀ c, x.transit.reports.get c = s.transit.reports.get c
    ++ (done.filter fun slot => s.claims.lapseChanges lapses slot c).map fun slot => s.claims.lapseReport lapses slot c
  emptied : ∀ k, gone k = true → x.attention.get k = []
  attention : ∀ k, lapses k = false → x.attention.get k
    = told s.claims (postsOf (done.flatMap (s.claims.lapseResumes lapses)) .resumed) k (s.attention.get k)
  store : x.store = { s.store with staging :=
    if (∃ k, gone k = true ∧ ∃ i ∈ s.sessions.info? k, i.role = .maintenance) then s.store.active
    else s.store.staging }

/-- R69: notices for other sessions' records leave a list alone. -/
theorem told_of_none {t : ClaimTable} {ps : List Post} {k : Slot} (h : ∀ q ∈ ps, t.ownerSlot q.1 ≠ some k)
    (l : List Entry) : told t ps k l = l := by
  have hnil : ps.filter (fun q => t.ownerSlot q.1 == some k) = [] :=
    List.filter_eq_nil_iff.mpr fun q hq => by simpa using h q hq
  rw [told, hnil]
  rfl

theorem ClaimTable.mem_without {t : ClaimTable} {gone : Slot → Bool} {c : Chan} {i : RecIdx} :
    i ∈ t.without gone c ↔ i ∈ t.holders.get c ∧ (t.ownerSlot i).any gone = false := by
  simp [ClaimTable.without]

/-- R62: nothing is told to a session that has lapsed. -/
theorem told_resumes_of_lapsed {t : ClaimTable} {lapses : Slot → Bool} {slot k : Slot}
    (hk : lapsedUpTo lapses slot k = true) (l : List Entry) :
    told t (postsOf (t.lapseResumes lapses slot) .resumed) k l = l := by
  refine told_of_none (fun q hq howner => ?_) l
  obtain ⟨i, hi, rfl⟩ := List.mem_map.mp hq
  obtain ⟨c, -, htop⟩ := List.mem_filterMap.mp hi
  have hnot := (ClaimTable.mem_without.mp (List.mem_of_mem_head? htop)).2
  rw [howner] at hnot
  cases hk.symm.trans hnot

theorem State.lapsedTo_self (s : State) (lapses : Slot → Bool) : s.LapsedTo lapses (fun _ => false) [] s where
  rest := rfl
  sessions _ := rfl
  lapseList := (List.append_nil _).symm
  recs i := by cases s.claims.ownerSlot i <;> rfl
  holders c := by
    rw [ClaimTable.without, List.filter_eq_self.mpr fun i _ => ?_]
    cases s.claims.ownerSlot i <;> rfl
  reports _ := (List.append_nil _).symm
  emptied _ h := by cases h
  attention _ _ := rfl
  store := by simp

section Step
variable {s x : State} {lapses gone : Slot → Bool} {done : List Slot}

/-- R25: whose a record is after some lapses. -/
theorem State.LapsedTo.ownerOf (h : s.LapsedTo lapses gone done x) (i : RecIdx) :
    x.claims.ownerOf i = if (s.claims.ownerSlot i).any gone then none else s.claims.ownerOf i := by
  rw [ClaimTable.ownerOf, ClaimTable.body?, h.recs]
  split <;> rfl

theorem State.LapsedTo.ownerSlot (h : s.LapsedTo lapses gone done x) (i : RecIdx) :
    x.claims.ownerSlot i = if (s.claims.ownerSlot i).any gone then none else s.claims.ownerSlot i := by
  rw [x.claims.ownerSlot_eq, h.ownerOf]
  split
  · rfl
  · exact (s.claims.ownerSlot_eq i).symm

theorem State.LapsedTo.named (h : s.LapsedTo lapses gone done x) (hnamed : ownersNamed s.sessions s.claims) :
    ownersNamed x.sessions x.claims := fun i id hid => by
  rw [h.ownerOf] at hid
  split at hid
  · cases hid
  · refine (SessionTable.idOf_congr ?_).trans (hnamed i id hid)
    rw [h.sessions]
    split <;> rfl

theorem State.LapsedTo.info? (h : s.LapsedTo lapses gone done x) {k : Slot} (hk : gone k = false) :
    x.sessions.info? k = s.sessions.info? k :=
  SessionTable.info?_congr ((h.sessions k).trans (if_neg (by simp [hk])))

/-- R62: after the lapse of `slot`, the slots gone are those gone before and `slot`. -/
theorem lapsedUpTo_eq {slot : Slot} (hslot : lapses slot = true) (k : Slot) :
    lapsedUpTo lapses slot k = (lapsedBefore lapses slot k || decide (k = slot)) := by
  rw [lapsedUpTo, lapsedBefore, Bool.eq_iff_iff]
  simp only [Bool.and_eq_true, Bool.or_eq_true, decide_eq_true_iff]
  constructor
  · rintro ⟨hk, hle⟩
    exact (lt_or_eq_of_le hle).imp (fun hlt => ⟨hk, hlt⟩) id
  · rintro (⟨hk, hlt⟩ | rfl)
    · exact ⟨hk, le_of_lt hlt⟩
    · exact ⟨hslot, le_refl _⟩

theorem any_lapsedUpTo {slot : Slot} (hslot : lapses slot = true) (o : Option Slot) :
    o.any (lapsedUpTo lapses slot) = (o.any (lapsedBefore lapses slot) || decide (o = some slot)) := by
  cases o with
  | none => rfl
  | some k => simp [lapsedUpTo_eq hslot]

theorem lapsedBefore_self (lapses : Slot → Bool) (slot : Slot) : lapsedBefore lapses slot slot = false := by
  simp [lapsedBefore]

section
variable {slot : Slot} (h : s.LapsedTo lapses (lapsedBefore lapses slot) done x)
  (hnamed : ownersNamed s.sessions s.claims) (hslot : lapses slot = true) (info : SessionInfo)
include h hnamed hslot

theorem State.LapsedTo.endSession_recs (i : RecIdx) : (x.endSession slot info true).claims.recs.get i
    = if (s.claims.ownerSlot i).any (lapsedUpTo lapses slot) then { s.claims.recs.get i with state := .free }
      else s.claims.recs.get i := by
  rw [State.endSession_recs (h.named hnamed), h.recs, h.ownerSlot, any_lapsedUpTo hslot]
  by_cases hgone : (s.claims.ownerSlot i).any (lapsedBefore lapses slot) = true
  · simp [hgone]
  · simp [hgone]

theorem State.LapsedTo.endSession_holders (hnodup : ∀ c, (s.claims.holders.get c).Nodup) (c : Chan) :
    (x.endSession slot info true).claims.holders.get c = s.claims.without (lapsedUpTo lapses slot) c := by
  have hx : (x.claims.holders.get c).Nodup := by
    rw [h.holders]
    exact (hnodup c).filter _
  rw [State.endSession_holders (h.named hnamed) info true hx, h.holders, ClaimTable.without, List.filter_filter]
  refine List.filter_congr fun i _ => ?_
  rw [h.ownerSlot, any_lapsedUpTo hslot]
  by_cases hgone : (s.claims.ownerSlot i).any (lapsedBefore lapses slot) = true
  · simp [hgone]
  · simp [hgone, bne, beq_eq_decide]

/-- R62: a record still on a stack after the lapse is as it was. -/
theorem State.LapsedTo.endSession_kept (hnodup : ∀ c, (s.claims.holders.get c).Nodup) {i : RecIdx} {c : Chan}
    (htop : (x.endSession slot info true).claims.top c = some i) :
    (x.endSession slot info true).claims.recs.get i = s.claims.recs.get i := by
  have hmem := List.mem_of_mem_head? htop
  rw [h.endSession_holders hnamed hslot info hnodup, ClaimTable.mem_without] at hmem
  rw [h.endSession_recs hnamed hslot info, if_neg (by simp [hmem.2])]

theorem State.LapsedTo.endSession_top (hnodup : ∀ c, (s.claims.holders.get c).Nodup) (c : Chan) :
    (x.endSession slot info true).claims.top c = s.claims.topAfter lapses slot c :=
  congrArg List.head? (h.endSession_holders hnamed hslot info hnodup c)

omit hnamed hslot in
theorem State.LapsedTo.top (c : Chan) : x.claims.top c = s.claims.topBefore lapses slot c :=
  congrArg List.head? (h.holders c)

/-- R10: the records that the lapse brings to a top. -/
theorem State.LapsedTo.endSession_resumes (hnodup : ∀ c, (s.claims.holders.get c).Nodup) :
    resumedPosts x (x.endSession slot info true) allChans = postsOf (s.claims.lapseResumes lapses slot) .resumed := by
  have hafter : (x.endSession slot info true).claims.top = s.claims.topAfter lapses slot :=
    funext fun c => h.endSession_top hnamed hslot info hnodup c
  have hbefore : x.claims.top = s.claims.topBefore lapses slot := funext fun c => h.top c
  rw [resumedPosts, hafter, hbefore]
  rfl

/-- R62: a record that the lapse brings to a top is as it was. -/
theorem State.LapsedTo.endSession_resumed (hnodup : ∀ c, (s.claims.holders.get c).Nodup) {i : RecIdx}
    (hi : i ∈ s.claims.lapseResumes lapses slot) :
    (x.endSession slot info true).claims.recs.get i = s.claims.recs.get i := by
  obtain ⟨c, -, htop⟩ := List.mem_filterMap.mp hi
  exact h.endSession_kept hnamed hslot info hnodup ((h.endSession_top hnamed hslot info hnodup c).trans htop)

theorem State.LapsedTo.endSession_told (hnodup : ∀ c, (s.claims.holders.get c).Nodup) (k : Slot) (l : List Entry) :
    told (x.endSession slot info true).claims (postsOf (s.claims.lapseResumes lapses slot) .resumed) k l
      = told s.claims (postsOf (s.claims.lapseResumes lapses slot) .resumed) k l := by
  refine told_congr_on (fun q hq => ?_) k l
  obtain ⟨i, hi, rfl⟩ := List.mem_map.mp hq
  have hrec := h.endSession_resumed hnamed hslot info hnodup hi
  exact ⟨ClaimTable.ownerSlot_of_ownerOf (ClaimTable.ownerOf_congr hrec),
    ClaimTable.handle_congr (congrArg ClaimRecord.gen hrec)⟩

/-- R9: the report of each top that the lapse changes. -/
theorem State.LapsedTo.endSession_reports (hnodup : ∀ c, (s.claims.holders.get c).Nodup) (c : Chan) :
    (x.endSession slot info true).transit.reports.get c = x.transit.reports.get c
      ++ if s.claims.lapseChanges lapses slot c then [s.claims.lapseReport lapses slot c] else [] := by
  refine (x.endSession_reported slot info true c).trans (congrArg _ ?_)
  have hkept := fun i => h.endSession_kept hnamed hslot info hnodup (i := i) (c := c)
  rw [h.endSession_top hnamed hslot info hnodup] at hkept ⊢
  rw [h.top, ClaimTable.lapseChanges, ClaimTable.lapseReport]
  by_cases hsame : s.claims.topAfter lapses slot c = s.claims.topBefore lapses slot c
  · simp [hsame]
  · rw [if_neg hsame, if_pos (by simpa using hsame)]
    cases htop : s.claims.topAfter lapses slot c with
    | none => rfl
    | some i =>
      have hrec := hkept i htop
      have hvalue : (x.endSession slot info true).claims.valueOn i c = s.claims.valueOn i c := by
        rw [ClaimTable.valueOn, ClaimTable.body?_congr hrec, ClaimTable.valueOn]
      exact congrArg₂ (fun g v => [Report.newTop g v]) (ClaimTable.handle_congr (congrArg ClaimRecord.gen hrec)) hvalue

end

/-- R62: the next lapse. -/
theorem State.LapsedTo.endSession {slot : Slot} (h : s.LapsedTo lapses (lapsedBefore lapses slot) done x)
    (hnamed : ownersNamed s.sessions s.claims) (hnodup : ∀ c, (s.claims.holders.get c).Nodup) (hslot : lapses slot = true)
    {info : SessionInfo} (hi : s.sessions.info? slot = some info) :
    s.LapsedTo lapses (lapsedUpTo lapses slot) (done ++ [slot]) (x.endSession slot info true) where
  rest := State.same (congrArg State.pending h.rest :) (congrArg State.resetHeld h.rest :)
    (congrArg State.quiescenLow h.rest :)
    (congrArg State.ports h.rest :) rfl rfl rfl (congrArg State.outputs h.rest :) (congrArg State.monitor h.rest :)
    (congrArg State.supervisor h.rest :) rfl
    ((x.endSession_transit slot info true).trans (by rw [congrArg State.transit h.rest]))
  sessions k := by
    refine (SessionTable.ended_recs slot k _ _).trans ?_
    rw [h.sessions, h.sessions, lapsedBefore_self, lapsedUpTo_eq hslot]
    by_cases hk : k = slot <;> simp [hk]
  lapseList := by
    refine (congrArg (· ++ [slot]) h.lapseList).trans (List.append_assoc _ _ _)
  recs := h.endSession_recs hnamed hslot info
  holders := h.endSession_holders hnamed hslot info hnodup
  reports c := by
    rw [h.endSession_reports hnamed hslot info hnodup, h.reports, List.filter_append, List.map_append, List.append_assoc]
    congr 2
    cases hchange : s.claims.lapseChanges lapses slot c <;> simp [hchange]
  emptied k hk := by
    by_cases hks : k = slot
    · rw [hks]
      exact x.endSession_attention_self slot info true
    · have hbefore := hk
      rw [lapsedUpTo_eq hslot, decide_eq_false hks, Bool.or_false] at hbefore
      rw [x.endSession_attention_other hks, h.endSession_resumes hnamed hslot info hnodup,
        h.endSession_told hnamed hslot info hnodup, told_resumes_of_lapsed hk, h.emptied k hbefore]
  attention k hk := by
    have hks : k ≠ slot := fun he => by
      rw [he, hslot] at hk
      cases hk
    rw [x.endSession_attention_other hks, h.endSession_resumes hnamed hslot info hnodup,
      h.endSession_told hnamed hslot info hnodup, h.attention k hk, ← told_append, List.flatMap_append,
      List.flatMap_singleton]
    exact congrArg (told s.claims · k _) List.map_append.symm
  store := by
    have hroles : (∃ k, lapsedUpTo lapses slot k = true ∧ ∃ i ∈ s.sessions.info? k, i.role = .maintenance)
        ↔ (∃ k, lapsedBefore lapses slot k = true ∧ ∃ i ∈ s.sessions.info? k, i.role = .maintenance)
          ∨ info.role = .maintenance := by
      constructor
      · rintro ⟨k, hk, i, hik, hrole⟩
        rw [lapsedUpTo_eq hslot, Bool.or_eq_true, decide_eq_true_iff] at hk
        rcases hk with hk | rfl
        · exact .inl ⟨k, hk, i, hik, hrole⟩
        · exact .inr (Option.some.inj (hi.symm.trans hik) ▸ hrole)
      · rintro (⟨k, hk, hrole⟩ | hrole)
        · exact ⟨k, by rw [lapsedUpTo_eq hslot, hk, Bool.true_or], hrole⟩
        · exact ⟨slot, by rw [lapsedUpTo_eq hslot]; simp, info, hi, hrole⟩
    rw [x.endSession_store, h.store]
    by_cases hrole : info.role = .maintenance
    · rw [if_pos hrole, if_pos (hroles.mpr (.inr hrole))]
    · by_cases hearlier : ∃ k, lapsedBefore lapses slot k = true ∧ ∃ i ∈ s.sessions.info? k, i.role = .maintenance
      · rw [if_neg hrole, if_pos hearlier, if_pos (hroles.mpr (.inl hearlier))]
      · rw [if_neg hrole, if_neg hearlier, if_neg (mt hroles.mp (not_or_intro hearlier hrole))]

end Step

/-! ## All lapses in turn -/

section Lapses
variable {s x : State} {lapses : Slot → Bool} {done : List Slot}
  (hnamed : ownersNamed s.sessions s.claims) (hnodup : ∀ c, (s.claims.holders.get c).Nodup)
  (hlapses : ∀ k, lapses k = (s.sessions.info? k).any fun i => decide (i.remaining = 0))
include hnamed hnodup hlapses

/-- R62: a slot's turn, whether it lapses or not. -/
theorem State.LapsedTo.lapseSlot {slot : Slot} (h : s.LapsedTo lapses (lapsedBefore lapses slot) done x) :
    s.LapsedTo lapses (lapsedUpTo lapses slot) (done ++ [slot].filter lapses) (x.lapseSlot slot) := by
  have hinfo : x.sessions.info? slot = s.sessions.info? slot := h.info? (lapsedBefore_self lapses slot)
  have hslot := hlapses slot
  cases hl : lapses slot with
  | true =>
    rw [hl] at hslot
    obtain ⟨info, hi, hout⟩ := (Option.any_eq_true _ _).mp hslot.symm
    have hends : x.lapseSlot slot = x.endSession slot info true := by
      unfold State.lapseSlot
      rw [hinfo, hi]
      exact if_pos (of_decide_eq_true hout)
    rw [hends, List.filter_singleton, hl]
    exact h.endSession hnamed hnodup hl hi
  | false =>
    have hstays : x.lapseSlot slot = x := by
      unfold State.lapseSlot
      rw [hinfo]
      split
      next info hi =>
        rw [hl, hi] at hslot
        exact if_neg (by simpa using hslot.symm)
      next => rfl
    have hsame : lapsedUpTo lapses slot = lapsedBefore lapses slot := by
      funext k
      by_cases hk : k = slot
      · simp [lapsedUpTo, lapsedBefore, hk, hl]
      · simp [lapsedUpTo, lapsedBefore, le_iff_lt_or_eq, hk]
    rw [hstays, hsame, List.filter_singleton, hl]
    simpa using h

theorem State.lapsedTo_take : ∀ n, n ≤ 8 → s.LapsedTo lapses (fun o => lapses o && decide (o.val < n))
    (((List.finRange 8).take n).filter lapses) (((List.finRange 8).take n).foldl State.lapseSlot s)
  | 0, _ => by
    have hnone : (fun o : Slot => lapses o && decide (o.val < 0)) = fun _ => false := funext fun o => by simp
    rw [hnone]
    exact s.lapsedTo_self lapses
  | n + 1, hn => by
    have hprev := State.lapsedTo_take n (Nat.le_of_succ_le hn)
    have hnext : (List.finRange 8).take (n + 1) = (List.finRange 8).take n ++ [⟨n, hn⟩] := by
      rw [List.take_succ_eq_append_getElem (by simpa using hn), List.getElem_finRange]
      rfl
    have hgone : (fun o : Slot => lapses o && decide (o.val < n + 1)) = lapsedUpTo lapses ⟨n, hn⟩ := by
      funext o
      simp [lapsedUpTo, Fin.le_def]
    rw [hnext, List.filter_append, List.foldl_append, hgone]
    exact State.LapsedTo.lapseSlot hnamed hnodup hlapses (slot := ⟨n, hn⟩) hprev

/-- R62: every session whose keepalive ran out has lapsed. -/
theorem State.lapseSessions_lapsedTo : s.LapsedTo lapses lapses ((List.finRange 8).filter lapses) s.lapseSessions := by
  have hall := State.lapsedTo_take hnamed hnodup hlapses 8 le_rfl
  have hgone : (fun o : Slot => lapses o && decide (o.val < 8)) = lapses := funext fun o => by simp [o.isLt]
  rw [hgone] at hall
  exact hall

/-- R61: after the lapses no OPEN session's keepalive has run out. -/
theorem State.lapseSessions_running : ∀ slot, ∀ i ∈ s.lapseSessions.sessions.info? slot, i.remaining ≠ 0 := by
  intro slot i hi
  have hwhole := State.lapseSessions_lapsedTo hnamed hnodup hlapses
  cases hl : lapses slot with
  | true =>
    rw [SessionTable.info?, hwhole.sessions, hl] at hi
    cases hi
  | false =>
    rw [hwhole.info? hl] at hi
    have hslot := hlapses slot
    rw [hl, hi] at hslot
    exact of_decide_eq_false hslot.symm

end Lapses

/-! ## SESSION_LAPSE -/

/-- Settles O44: the session table takes its tick, and the sessions with none left lapse one after the other. -/
theorem sessionLapseEndsSessions : Obligations.SessionLapseEndsSessions := by
  unfold Obligations.SessionLapseEndsSessions
  intro s howed hstacks howners lapses lapsed stack topBefore topAfter changed
  let u : State := (s.taken .sessionTable).decrementKeepalives
  have hinfo : ∀ k, u.sessions.info? k
      = (s.sessions.info? k).map fun info => { info with remaining := info.remaining - 1 } :=
    (s.taken .sessionTable).decrementKeepalives_info?
  have hrec : ∀ k, u.sessions.recs.get k = (s.sessions.recs.get k).keepaliveTick :=
    fun k => Table.get_map s.sessions.recs _ k
  have hlapses : ∀ k, lapses k = (u.sessions.info? k).any fun i => decide (i.remaining = 0) := fun k => by
    rw [hinfo, Option.any_map]
    refine congrArg (fun p => (s.sessions.info? k).any p) (funext fun i => ?_)
    simp [Nat.sub_eq_zero_iff_le]
  have hnamed : ownersNamed u.sessions u.claims := fun i id hid =>
    (SessionTable.idOf_congr ((congrArg Session.gen (hrec id.slot)).trans (Session.keepaliveTick_gen _))).trans
      (howners.named i id hid)
  have hnodup : ∀ c, (u.claims.holders.get c).Nodup := fun c => (hstacks c).nodup
  have hrunning := State.lapseSessions_running hnamed hnodup hlapses
  have hx : exec .sessionLapse s = .next u.lapseSessions := by
    have htick : s.takeTick .sessionTable = u.lapseSessions := State.takeTick_owed (b := .sessionTable) howed
    show Host.Outcome.next (s.takeTick .sessionTable).lapseSessions = _
    rw [htick, State.lapseSessions_of_none hrunning]
  have hwhole : u.LapsedTo lapses lapses lapsed u.lapseSessions := State.lapseSessions_lapsedTo hnamed hnodup hlapses
  have hrole : (∃ k, lapses k = true ∧ ∃ i ∈ u.sessions.info? k, i.role = .maintenance)
      ↔ ∃ k, lapses k = true ∧ ∃ i ∈ s.sessions.info? k, i.role = .maintenance := by
    simp [hinfo]
  refine ⟨_, hx, hwhole.rest, fun k => ?_, hwhole.lapseList, hwhole.recs, hwhole.holders, hwhole.reports, hwhole.emptied,
    hwhole.attention, fun hnone => ?_, ?_⟩
  · rw [hwhole.sessions, hrec]
    have hlapse : lapses k = (s.sessions.recs.get k).state.info?.any fun i => decide (i.remaining ≤ 1) := rfl
    cases hs : (s.sessions.recs.get k).state with
    | opened i =>
      rw [hs] at hlapse
      rw [hlapse, Session.keepaliveTick_opened hs]
      by_cases hlast : i.remaining ≤ 1
      · simp [SessionState.info?, hlast]
      · simp [SessionState.info?, hlast]
    | closed | lapsed =>
      rw [hs] at hlapse
      rw [hlapse, Session.keepaliveTick, hs]
      exact congrArg (Session.mk _) hs
  · have hstay : u.lapseSessions = u := State.lapseSessions_of_none fun slot i hi => by
      have hslot := hlapses slot
      rw [hnone, hi] at hslot
      exact of_decide_eq_false hslot.symm
    rw [hstay]
    exact ⟨rfl, rfl, rfl⟩
  · rw [hwhole.store, if_congr hrole rfl rfl]
    rfl

end Sys2Proof.Machine
end
